-- ==== Sys2Proof/Word.lean ====
section
/-! DEFINITION. The word types of FMCORE (00_scope R6, R7). A width is fixed here where the spec fixes one. -/

namespace Sys2Proof

/-- An audio sample: `SAMPLE_W = 16` bits, two's complement (00_scope R6). `BitVec.toInt` reads it as `sext_16`. -/
abbrev Sample := BitVec 16

/-- A timer field: `TIMER_W = 32` bits, unsigned, in ticks of one audio sample (00_scope R6). -/
abbrev Ticks := BitVec 32

/-- A word of a command packet (30_encoding R90). -/
abbrev CmdWord := BitVec 32

/-- A configuration status code, `STATUS_W = 8` bits, 0 = accepted (00_scope R6, 30_encoding R106). -/
abbrev StatusCode := BitVec 8

/-- A value of the shared `mode` register, two bits, stored as written (30_encoding R103). -/
abbrev ModeWord := BitVec 2

/-- The operands of a configuration call that the block does not keep: to the block one opaque value
(30_encoding R109). Coded as a number, of which the model reads nothing (log entry 9). -/
abbrev Payload := Nat

end Sys2Proof
end

