-- ==== Sys2Proof/Config.lean ====
section
/-! DEFINITION. What is fixed for one FMCORE: the constants and parameters of 00_scope R6, the collaborators' interfaces
(60_exceptions R256 to R264), and the free values. A free value is an `opaque` constant: nothing can be proved of what it is. -/

namespace Sys2Proof

/-! ### Constants with a value (00_scope R6) -/

namespace Config

/-- `TICKS_PER_MIN = 1440000`: 60 times the sample rate of 24000. -/
def ticksPerMin : Nat := 1440000
/-- `SILENCE_LEN = 1200`: samples of silence inserted on leaving LISTENING. -/
def silenceLen : Nat := 1200
/-- `IRB_CAP = 4800`: capacity of the input delay ring. -/
def irbCap : Nat := 4800
/-- `IRB_DELAY = 2400`: zeros preloaded in the input ring at power-on. -/
def irbDelay : Nat := 2400
/-- `ORB_CAP = 2400`: capacity of the output ring. -/
def orbCap : Nat := 2400
/-- `BLOCK_MAX = 255`: the largest block length of SAMPLES. -/
def blockMax : Nat := 255

end Config

/-! ### Parameters (00_scope R6; 92_eei_decisions, the list of open parameters) -/

/-- `ORB_OVERFLOW_POLICY`: what a Put into a full output ring does (20_memory R65). -/
inductive OverflowPolicy
  | dropNew
  | fault
deriving DecidableEq, Repr, Inhabited

/-- The parameters of one instance of the block. No operation writes them. They stand in the state as plain data so that
every statement about every state holds for every value of them (log entry 10). -/
structure Params where
  /-- `RX_PRESCALE_SHIFT`, OPEN, 0 to 15 (41_signal_path R144, 92 D15). -/
  rxPrescaleShift : Fin 16
  /-- `ACK_DELAY_OFFSET`, OPEN, in ticks (10_state R26, 92 D11). -/
  ackDelayOffset : Ticks
  /-- `SINK_HEADROOM`, OPEN, in samples (44_drain_reset R240, 92 D21). -/
  sinkHeadroom : Nat
  /-- `FM_TAG`, OPEN, an opaque constant coded as a number (44_drain_reset R240, 92 D21). -/
  fmTag : Nat
  /-- `STOPALL_HOLDOFF` (40_timers R128, 92 D5). -/
  stopAllHoldoff : Bool
  /-- `ORB_OVERFLOW_POLICY` (20_memory R65, 92 D19). -/
  orbOverflowPolicy : OverflowPolicy
deriving DecidableEq, Repr

namespace Config

/-- `RX_PRESCALE_SHIFT` of the instance that `State.reset` starts: OPEN, no value assumed. -/
opaque rxPrescaleShift : Fin 16
/-- `ACK_DELAY_OFFSET` of the instance that `State.reset` starts: OPEN, no value assumed. -/
opaque ackDelayOffset : Ticks
/-- `SINK_HEADROOM` of the instance that `State.reset` starts: OPEN, no value assumed. -/
opaque sinkHeadroom : Nat
/-- `FM_TAG` of the instance that `State.reset` starts: OPEN, no value assumed. -/
opaque fmTag : Nat

/-- The parameters of the instance that `State.reset` starts: the OPEN ones uninterpreted, the other two at the value of
00_scope R6. -/
def params : Params where
  rxPrescaleShift := rxPrescaleShift
  ackDelayOffset := ackDelayOffset
  sinkHeadroom := sinkHeadroom
  fmTag := fmTag
  stopAllHoldoff := true
  orbOverflowPolicy := .dropNew

end Config

/-! ### The collaborators' calls and answers (60_exceptions R257 to R264) -/

/-- The three external generators (60_exceptions R259, R260, R261). -/
inductive GenId
  | idgen
  | ackgen
  | totone
deriving DecidableEq, Repr, Inhabited

/-- The audio-pull accessors of a generator (60_exceptions R259 to R261). -/
inductive Pull
  | high
  | low
  | audio
deriving DecidableEq, Repr, Inhabited

/-- The calls on a generator that may have an effect on it (60_exceptions R266 A3); `isRunning` and `isWanted` have none. -/
inductive GenCall
  | start
  | stop
  | pull (p : Pull)
  | setParams (p : Payload)
deriving DecidableEq, Repr

/-- What a generator answers to a call with an effect, and what it will answer to `isRunning` and `isWanted` from then on. -/
structure GenReply where
  audio : Sample
  code : StatusCode
  running : Bool
  wanted : Bool
deriving DecidableEq, Repr, Inhabited

/-- The answer of `ctcss_rx.process`: "two orthogonal booleans (ready, valid)" (30_encoding R104). -/
structure RxAnswer where
  ready : Bool
  valid : Bool
deriving DecidableEq, Repr, Inhabited

/-- The calls on the CTCSS decoder (60_exceptions R257). -/
inductive RxCall
  | process (x : Sample)
  | reset
  | setParams (p : Payload)
deriving DecidableEq, Repr

/-- The calls on the CTCSS encoder (60_exceptions R258). -/
inductive TxCall
  | getAudio
  | setParams (p : Payload)
deriving DecidableEq, Repr

namespace Config

/-! ### Free values: the collaborators (60_exceptions R256, R266, 93 I10; log entry 3)

A collaborator's hidden state is a number that names it; a call takes it to a next one and yields an answer. Every function
here has no body. Each depends on all that the real answer may depend on, so that no independence can be proved. -/

/-- The answer of generator `k`, running and wanted as given, in hidden position `pos`, to call `c`. -/
opaque genReply : GenId → Bool → Bool → Nat → GenCall → GenReply
/-- The hidden position that call `c` leaves generator `k` in. -/
opaque genPos : GenId → Bool → Bool → Nat → GenCall → Nat
/-- The answer of the CTCSS decoder in hidden state `st` to `process(x)`. -/
opaque rxAnswer : Nat → Sample → RxAnswer
/-- The code of the CTCSS decoder in hidden state `st` for `setParams(p)`. -/
opaque rxCode : Nat → Payload → StatusCode
/-- The hidden state that a call leaves the CTCSS decoder in. -/
opaque rxNext : Nat → RxCall → Nat
/-- The sample the CTCSS encoder in hidden state `st` answers to `getAudio()`. -/
opaque txAudio : Nat → Sample
/-- The code of the CTCSS encoder in hidden state `st` for `setParams(p)`. -/
opaque txCode : Nat → Payload → StatusCode
/-- The hidden state that a call leaves the CTCSS encoder in. -/
opaque txNext : Nat → TxCall → Nat
/-- The free capacity the sink in hidden state `st` reports to the `n`-th `space()` call (log entry 6). -/
opaque sinkSpace : Nat → Nat → Nat
/-- The hidden state that `write(tag, v)` leaves the sink in. -/
opaque sinkNext : Nat → Nat → Sample → Nat

/-! ### Uninterpreted functions: the filter stages and the blanker (60_exceptions R262, R263, 92 D37, 93 I12) -/

/-- Output of low-pass stage `j` (0, 1, 2 for `lpf1`, `lpf2`, `lpf3`) in state `st` for the sample `y`. -/
opaque lpfOut : Fin 3 → Nat → Sample → Sample
/-- State of low-pass stage `j` after filtering `y` in state `st`. -/
opaque lpfNext : Fin 3 → Nat → Sample → Nat
/-- `lpf_init` of stage `j` (10_state R35, R41). The spec names one `lpf_init` and does not say whether the three stages share
it; that each stage has its own is the model's choice, DESIGN CHOICE, safe (log entry 20). -/
opaque lpfInit : Fin 3 → Nat
/-- Output of the deviation blanker, with the parameters last handed to it, in state `st` for the sample `x`. -/
opaque blankOut : Option Payload → Nat → Sample → Sample
/-- State of the deviation blanker after processing `x` in state `st`. -/
opaque blankNext : Option Payload → Nat → Sample → Nat
/-- `blank_init` (10_state R41). -/
opaque blankInit : Nat

end Config

end Sys2Proof
end

