-- ==== Sys2Proof/Syntax.lean ====
section
/-! DEFINITION. The host operations: one constructor per row of spec/opcode_table.json (30_encoding R98), with the operands
of 30_encoding R92 to R97 in the packet's field order. -/

namespace Sys2Proof

/-- A host operation, the block's "instruction". Payloads are no part of the packet (30_encoding R109): they stand on the
collaborator port. -/
inductive Instr
  /-- RESET (44_drain_reset R241). -/
  | reset
  /-- SET_CALLSIGN (43_config R221, encoding R93). -/
  | setCallsign (atStart atEnd atLatch : Bool) (holdoffMin repeatMin : BitVec 8)
  /-- SET_ACK (43_config R222, encoding R94). -/
  | setAck (minTime delay : Ticks)
  /-- SET_MISC (43_config R223, encoding R95). -/
  | setMisc (useCos cosInvert : Bool) (boost : BitVec 8) (rxLevel : BitVec 16) (timeout kerchunk hang : Ticks)
  /-- SAMPLES (41_signal_path R140, encoding R96); the block length `n` is the length of the list. -/
  | samples (cos : Bool) (s : List Sample)
  /-- DRAIN (44_drain_reset R240). -/
  | drain
  /-- MODE_WR (43_config R224, encoding R97). -/
  | modeWr (m : ModeWord)
deriving DecidableEq, Repr

/-! ### Pseudo-instructions (30_encoding R108): terms that expand to operations -/

/-- `SAMPLESC cos=<c> n=<k> v=<s>`. -/
def Instr.samplesC (cos : Bool) (k : Nat) (v : Sample) : Instr := .samples cos (List.replicate k v)

/-- `SAMPLESZ cos=<c> n=<k>`. -/
def Instr.samplesZ (cos : Bool) (k : Nat) : Instr := .samplesC cos k 0

/-- `REPEAT <m> : <operation>`. -/
def Instr.repeated (m : Nat) (i : Instr) : List Instr := List.replicate m i

/-- `CONFIG_MIN`. -/
def Instr.configMin : Instr := .setMisc false false 1 1 0 0 0

end Sys2Proof
end

