-- ==== Sys2Proof/WellFormed.lean ====
section
/-! DEFINITION. When an `Instr` stands for an operation the packet format can carry. Every operand width is in its type; the
one check left is the block length, an 8-bit field (30_encoding R96, `BLOCK_MAX = 255` of 00_scope R6). -/

namespace Sys2Proof

/-- `i` has an encoding. -/
def Instr.wellFormed (i : Instr) : Bool :=
  match i with
  | .reset => true
  | .setCallsign _ _ _ _ _ => true
  | .setAck _ _ => true
  | .setMisc _ _ _ _ _ _ _ => true
  | .samples _ s => decide (s.length ≤ Config.blockMax)
  | .drain => true
  | .modeWr _ => true

end Sys2Proof
end

