-- ==== Sys2Proof/Decode.lean ====
section
/-! DEFINITION. The command decoder and encoder (30_encoding R90 to R101): from the words waiting on the command port to an
operation, a rejection by name, or the wait for missing words; and back. Total on every list of words. -/

namespace Sys2Proof

/-- The seven operations, without operands: the `op` of a row of 30_encoding R98. -/
inductive Op
  | reset
  | setCallsign
  | setAck
  | setMisc
  | samples
  | drain
  | modeWr
deriving DecidableEq, Repr

/-- A row of the opcode map: `w0 & mask == pattern` selects it (30_encoding R98). -/
structure Row where
  op : Op
  pattern : CmdWord
  mask : CmdWord
deriving DecidableEq, Repr

/-- Why a word 0 matches no row (30_encoding R100): the opcode is 0 or 8 to 15, or a "zero" field is not zero. -/
inductive Rejection
  | reservedOpcode (op : BitVec 4)
  | nonzeroReservedField (op : BitVec 4)
deriving DecidableEq, Repr

/-- What the waiting words are. -/
inductive Decoded
  /-- a complete packet and the words after it -/
  | instr (i : Instr) (rest : List CmdWord)
  /-- an illegal word 0, a packet of one word, and the words after it -/
  | illegal (why : Rejection) (rest : List CmdWord)
  /-- no complete packet yet -/
  | wait
deriving DecidableEq, Repr

/-- The opcode map (30_encoding R98). -/
def opcodeTable : List Row :=
  [ ⟨.reset,       0x10000000, 0xFFFFFFFF⟩,
    ⟨.setCallsign, 0x20000000, 0xF1FF0000⟩,
    ⟨.setAck,      0x30000000, 0xFFFFFFFF⟩,
    ⟨.setMisc,     0x40000000, 0xF3000000⟩,
    ⟨.samples,     0x50000000, 0xF7FFFF00⟩,
    ⟨.drain,       0x60000000, 0xFFFFFFFF⟩,
    ⟨.modeWr,      0x70000000, 0xFFFFFFFC⟩ ]

/-- `w0 & mask == pattern`. -/
def Row.selects (r : Row) (w0 : CmdWord) : Bool := (w0 &&& r.mask) == r.pattern

/-- The operation that word 0 selects, if it is legal (30_encoding R98, R100). -/
def selectOp (w0 : CmdWord) : Option Op := (opcodeTable.find? (·.selects w0)).map (·.op)

/-- `w[lo+len-1 : lo]` (00_scope R7). -/
def field (w : CmdWord) (lo len : Nat) : BitVec len := w.extractLsb' lo len

/-- How many words follow word 0 (30_encoding R101). -/
def operandWords (w0 : CmdWord) : Nat :=
  match selectOp w0 with
  | some .setAck => 2
  | some .setMisc => 3
  | some .samples => (field w0 0 8).toNat
  | _ => 0

/-- The length of the packet that word 0 begins, from word 0 alone (30_encoding R101). -/
def packetLength (w0 : CmdWord) : Nat := 1 + operandWords w0

/-- The operands of an operation from word 0 and its operand words (30_encoding R92 to R97, R99). Bits 31:16 of a SAMPLES
operand word are ignored (R96). -/
def assemble (op : Op) (w0 : CmdWord) (ops : List CmdWord) : Instr :=
  match op with
  | .reset => .reset
  | .setCallsign => .setCallsign (w0.getLsbD 27) (w0.getLsbD 26) (w0.getLsbD 25) (field w0 8 8) (field w0 0 8)
  | .setAck => .setAck (ops.getD 0 0) (ops.getD 1 0)
  | .setMisc =>
    .setMisc (w0.getLsbD 27) (w0.getLsbD 26) (field w0 16 8) (field w0 0 16) (ops.getD 0 0) (ops.getD 1 0) (ops.getD 2 0)
  | .samples => .samples (w0.getLsbD 27) (ops.map fun w => field w 0 16)
  | .drain => .drain
  | .modeWr => .modeWr (field w0 0 2)

/-- Why an illegal word 0 is illegal (30_encoding R100). -/
def rejection (w0 : CmdWord) : Rejection :=
  let op := field w0 28 4
  if op = 0 ∨ 8#4 ≤ op then .reservedOpcode op else .nonzeroReservedField op

/-- Decode the waiting words, oldest first. Legality is decided on word 0 before any operand word is taken, so an illegal
word 0 never swallows following words; a packet that is too short waits (30_encoding R101). -/
def decodePacket (ws : List CmdWord) : Decoded :=
  match ws with
  | [] => .wait
  | w0 :: ops =>
    match selectOp w0 with
    | none => .illegal (rejection w0) ops
    | some op =>
      if ops.length < operandWords w0 then .wait
      else .instr (assemble op w0 (ops.take (operandWords w0))) (ops.drop (operandWords w0))

/-! ### The encoder -/

/-- Word 0 of an operation, field by field from bit 31 down (30_encoding R92 to R97). -/
def encodeHead (i : Instr) : CmdWord :=
  match i with
  | .reset => 1#4 ++ 0#28
  | .setCallsign s e l h r => 2#4 ++ BitVec.ofBool s ++ BitVec.ofBool e ++ BitVec.ofBool l ++ 0#9 ++ h ++ r
  | .setAck _ _ => 3#4 ++ 0#28
  | .setMisc c v b x _ _ _ => 4#4 ++ BitVec.ofBool c ++ BitVec.ofBool v ++ 0#2 ++ b ++ x
  | .samples c s => 5#4 ++ BitVec.ofBool c ++ 0#19 ++ BitVec.ofNat 8 s.length
  | .drain => 6#4 ++ 0#28
  | .modeWr m => 7#4 ++ 0#26 ++ m

/-- The operand words of an operation (30_encoding R94 to R96); the ignored half of a sample word is sent as zero. -/
def encodeOperands (i : Instr) : List CmdWord :=
  match i with
  | .setAck m d => [m, d]
  | .setMisc _ _ _ _ t k h => [t, k, h]
  | .samples _ s => s.map fun x => 0#16 ++ x
  | .reset => []
  | .setCallsign _ _ _ _ _ => []
  | .drain => []
  | .modeWr _ => []

/-- The packet of an operation. -/
def encode (i : Instr) : List CmdWord := encodeHead i :: encodeOperands i

/-! ### Words numbered as spec/opcode_table.json numbers them -/

/-- The packet whose bits are `w`, bit 0 the least significant bit of word 0, a later word's bits counting on from it; the
bits above `nbits` are 0. Its length is the one word 0 gives. -/
def tableWords (nbits w : Nat) : List CmdWord :=
  let bits := w % 2 ^ nbits
  (List.range (packetLength (BitVec.ofNat 32 bits))).map fun j => BitVec.ofNat 32 (bits / 2 ^ (32 * j))

/-- The operation this decoder reads from the packet of `tableWords`. -/
def decodeTableWord (nbits w : Nat) : Option Instr :=
  match decodePacket (tableWords nbits w) with
  | .instr i _ => some i
  | .illegal _ _ => none
  | .wait => none

end Sys2Proof
end

