-- ==== Sys2Proof/Machine/State.lean ====
section
/-! DEFINITION. The state of FMCORE as plain data: the registers and FIFOs of 10_state R20; what the block sees of its
collaborators (10_state R36, R38); the command port (30_encoding R90); the instance's parameters (00_scope R6); and the
record of the last operation's calls (00_scope R10). The block has no program counter and no addressed memory (10_state R22,
20_memory R70). -/

namespace Sys2Proof.Machine

/-! ### The block's registers -/

/-- ControllerState, "exactly one of" seven values (10_state R21, 30_encoding R102). -/
inductive Ctl
  | listening
  | kerchunk
  | relaying
  | relayingWait
  | timeout
  | timeoutWait
  | hang
deriving DecidableEq, Repr, Inhabited

/-- The seven timers, in index order 0 to 6 (10_state R25, 30_encoding R105). -/
inductive TimerId
  | id
  | ackDly
  | minAck
  | timeout
  | hold
  | hang
  | ker
deriving DecidableEq, Repr, Inhabited

/-- A timer: configured length, initial offset, elapsed counter, running flag (10_state R24). -/
@[ext] structure Timer where
  dur : Ticks
  off : Ticks
  el : Ticks
  run : Bool
deriving DecidableEq, Repr, Inhabited

/-- "six named instances rather than a generic collection", and the kerchunk timer (10_state R25, 90_conflicts C1). -/
@[ext] structure Timers where
  id : Timer
  ackDly : Timer
  minAck : Timer
  timeout : Timer
  hold : Timer
  hang : Timer
  ker : Timer
deriving DecidableEq, Repr

/-- The configuration registers (10_state R30). -/
@[ext] structure Cfg where
  atStart : Bool
  atEnd : Bool
  atLatch : Bool
  useCos : Bool
  cosInvert : Bool
  rfAudioBoost : BitVec 8
  rxLevel : BitVec 16
deriving DecidableEq, Repr

/-- The result of the last operation (10_state R33). -/
@[ext] structure Result where
  status : StatusCode
  refused : Bool
  refuseCode : BitVec 3
deriving DecidableEq, Repr

/-- The state of a low-pass stage or of the blanker (10_state R35): `abs n` is an abstract state, of which only its name `n`
is known; `thru` is the state of the stateless pass-through instance of 95_test_vectors Part 0 (log entry 7). -/
inductive FilterState
  | abs (n : Nat)
  | thru
deriving DecidableEq, Repr

/-- `lpf_state[1..3]` and `blank_state` (10_state R35). -/
@[ext] structure Filters where
  lpf1 : FilterState
  lpf2 : FilterState
  lpf3 : FilterState
  blank : FilterState
deriving DecidableEq, Repr

/-! ### What stands outside the block and is reached by calls -/

/-- A generator as the block can see it (10_state R36, 60_exceptions R259 to R261, R266). `totone`'s `wanted` is never
asked. `stopped` says that the last call with an effect was `stop()` (A5, log entry 5). `replies` is its response channel
(log entry 4). -/
@[ext] structure Gen where
  running : Bool
  wanted : Bool
  stopped : Bool
  pos : Nat
  replies : List GenReply
deriving DecidableEq, Repr

/-- The CTCSS decoder (60_exceptions R257). `clean` says that the last call with an effect was `reset()` (A5). `replies` and
`codes` are its response channel. -/
@[ext] structure Decoder where
  st : Nat
  clean : Bool
  replies : List RxAnswer
  codes : List StatusCode
deriving DecidableEq, Repr

/-- The CTCSS encoder (60_exceptions R258); `audio` and `codes` are its response channel. -/
@[ext] structure Encoder where
  st : Nat
  audio : List Sample
  codes : List StatusCode
deriving DecidableEq, Repr

/-- The sample sink (60_exceptions R264); `asked` counts the `space()` calls (log entry 6), `spaces` is its response
channel. -/
@[ext] structure Sink where
  st : Nat
  asked : Nat
  spaces : List Nat
deriving DecidableEq, Repr

/-- The collaborators. The blanker's and the filters' states stand in `Filters`; `blankParams` is the payload the blanker
last received (log entry 8). -/
@[ext] structure Env where
  rx : Decoder
  tx : Encoder
  idgen : Gen
  ackgen : Gen
  totone : Gen
  sink : Sink
  blankParams : Option Payload
deriving DecidableEq, Repr

/-- The payloads the host presents on the collaborator port (30_encoding R109). -/
structure Payloads where
  pId : Payload
  pAck : Payload
  pTo : Payload
  pBlank : Payload
  pRx : Payload
  pTx : Payload
deriving DecidableEq, Repr

/-- A call from the block to a collaborator, with its answer where it has one (00_scope R10, 60_exceptions R257 to R265). -/
inductive Call
  | rxProcess (x : Sample) (a : RxAnswer)
  | rxReset
  | rxSetParams (p : Payload) (code : StatusCode)
  | txGetAudio (a : Sample)
  | txSetParams (p : Payload) (code : StatusCode)
  | genStart (k : GenId)
  | genStop (k : GenId)
  | genIsRunning (k : GenId) (b : Bool)
  | genIsWanted (k : GenId) (b : Bool)
  | genPull (k : GenId) (p : Pull) (a : Sample)
  | genSetParams (k : GenId) (p : Payload) (code : StatusCode)
  | totoneSetParams (p : Payload)
  | blankProcess (x y : Sample)
  | blankSetParams (p : Payload)
  | lpfFilter (j : Fin 3) (x y : Sample)
  | sinkSpace (n : Nat)
  | sinkWrite (tag : Nat) (v : Sample)
  | logTransition (old new : Ctl)
deriving DecidableEq, Repr

/-! ### The reasons a step can stop -/

/-- The block has no run-time error (60_exceptions R250). These are the stops that 20_memory R65 and 93 I7 allow. -/
inductive Fault
  /-- Raised by a Put into a full output ring when `ORB_OVERFLOW_POLICY = fault` (20_memory R65). As the spec has it: safe. -/
  | orbOverflow
  /-- Raised by a Put into a full input ring (93 I7 "a model that reaches it has a bug: `fault`"). No run from power-on
  reaches it; safe. -/
  | irbFull
  /-- Raised by a Get from an empty ring (93 I7). No operation reaches it; safe. -/
  | ringEmpty
deriving DecidableEq, Repr

/-- Operations without a meaning. The block's own refusals (60_exceptions R252) are next states, not these. -/
inductive Refusal
  /-- Raised by `exec` for an operation that has no meaning yet; safe. -/
  | notModelled (mnemonic : String)
deriving DecidableEq, Repr

/-! ### The state -/

/-- All of it. -/
@[ext]
structure State where
  /-- the sequencing register (10_state R21) -/
  state : Ctl
  /-- the timer register sets (10_state R24, R25) -/
  tmr : Timers
  /-- output line "decode enabled" (10_state R27) -/
  decodeEn : Bool
  /-- output line "ADC detection enabled" (10_state R28) -/
  adcDetEn : Bool
  /-- the host modem mode (10_state R29) -/
  mode : ModeWord
  /-- configuration registers (10_state R30) -/
  cfg : Cfg
  /-- sticky: a sample was dropped (10_state R32) -/
  orbOvf : Bool
  /-- result of the last operation (10_state R33) -/
  res : Result
  /-- filter chain state (10_state R35) -/
  filt : Filters
  /-- input delay ring, head first (20_memory R61) -/
  irb : List Sample
  /-- output ring, head first (20_memory R62) -/
  orb : List Sample
  /-- the collaborators (10_state R36) -/
  env : Env
  /-- payloads on the collaborator port (30_encoding R109) -/
  payload : Payloads
  /-- the instance's parameters (00_scope R6) -/
  par : Params
  /-- words on the command port, oldest first (30_encoding R90) -/
  cmd : List CmdWord
  /-- calls of the last operation, newest first (00_scope R10) -/
  calls : List Call
  /-- the fault the running operation has raised (log entry 11) -/
  halt : Option Fault
deriving DecidableEq, Repr

/-! ### Power-on (10_state R41, 70_reset R280) -/

/-- A timer after power-on. -/
def Timer.zero : Timer where
  dur := 0
  off := 0
  el := 0
  run := false

/-- A generator at power-on: neither running nor wanted (60_exceptions R266 A6). DESIGN CHOICE: the hidden position is
named 0 and nothing has been supplied on the response channel (log entry 16). -/
def Gen.zero : Gen where
  running := false
  wanted := false
  stopped := false
  pos := 0
  replies := []

/-- The collaborators at power-on. DESIGN CHOICE: hidden states are named 0, response channels empty (log entry 16). -/
def Env.zero : Env where
  rx := { st := 0, clean := false, replies := [], codes := [] }
  tx := { st := 0, audio := [], codes := [] }
  idgen := Gen.zero
  ackgen := Gen.zero
  totone := Gen.zero
  sink := { st := 0, asked := 0, spaces := [] }
  blankParams := none

/-- The machine right after power-on reset: the power-on column of 10_state R41. The fields that column does not know are
log entries 2, 9, 10, 11, 13 and 16; that each low-pass stage has an initial state of its own is log entry 20. -/
def State.reset : State where
  state := .listening
  tmr :=
    { id := Timer.zero, ackDly := Timer.zero, minAck := Timer.zero, timeout := Timer.zero, hold := Timer.zero,
      hang := Timer.zero, ker := Timer.zero }
  decodeEn := false
  adcDetEn := false
  mode := 0
  cfg :=
    { atStart := false, atEnd := false, atLatch := false, useCos := false, cosInvert := false, rfAudioBoost := 0,
      rxLevel := 0 }
  orbOvf := false
  res := { status := 0, refused := false, refuseCode := 0 }
  filt :=
    { lpf1 := .abs (Config.lpfInit 0), lpf2 := .abs (Config.lpfInit 1), lpf3 := .abs (Config.lpfInit 2),
      blank := .abs Config.blankInit }
  irb := List.replicate Config.irbDelay 0
  orb := []
  env := Env.zero
  payload := { pId := 0, pAck := 0, pTo := 0, pBlank := 0, pRx := 0, pTx := 0 }
  par := Config.params
  cmd := []
  calls := []
  halt := none

end Sys2Proof.Machine
end

