-- ==== Sys2Proof/Machine/Ops.lean ====
section
/-! DEFINITION. The shared operations: the arithmetic of 00_scope R8, the FIFO accesses of 20_memory R63 to R66, the start of
an operation, the call record of 00_scope R10, and what the outside does to the machine between operations. -/

namespace Sys2Proof.Machine

/-! ### Arithmetic (00_scope R8, 41_signal_path R161) -/

/-- `sat16(v)`: `SMIN` below the sample range, `SMAX` above it, else `v` (00_scope R8). -/
def sat16 (v : Int) : Sample :=
  if v < -32768 then BitVec.ofInt 16 (-32768) else if 32767 < v then BitVec.ofInt 16 32767 else BitVec.ofInt 16 v

/-- `tdiv(a, b)`: the quotient rounded toward zero (00_scope R8). -/
def tdiv (a b : Int) : Int := a.tdiv b

/-- `satadd32(a, n) = min(a + n, 2^32 - 1)` (00_scope R8). -/
def satadd32 (a : Ticks) (n : Nat) : Ticks := BitVec.ofNat 32 (min (a.toNat + n) (2 ^ 32 - 1))

/-- The saturating sum of two samples: `sat16(x + y)`, the sum formed in the integers (41_signal_path R161). -/
def satAdd (x y : Sample) : Sample := sat16 (x.toInt + y.toInt)

/-! ### Recording a call, raising a fault, starting an operation -/

/-- The call `e` is made: it joins the sequence of the operation's calls (00_scope R10). -/
def State.record (e : Call) (s : State) : State := { s with calls := e :: s.calls }

/-- The operation stops with fault `f`. A fault outcome carries no state, so the operation may run on to its end; the first
fault is kept (log entry 11). -/
def State.raise (f : Fault) (s : State) : State := { s with halt := some (s.halt.getD f) }

/-- The start of an operation: it has made no call yet and raised no fault. -/
def State.beginOp (s : State) : State := { s with calls := [], halt := none }

/-! ### The two FIFOs (20_memory R63 to R66) -/

/-- `Count(irb)`. -/
def State.irbCount (s : State) : Nat := s.irb.length

/-- `Count(orb)`. -/
def State.orbCount (s : State) : Nat := s.orb.length

/-- `Put(irb, v)` (20_memory R63); on a full ring the fault of 93 I7. -/
def putIrb (v : Sample) (s : State) : State :=
  if s.irbCount < Config.irbCap then { s with irb := s.irb ++ [v] } else s.raise .irbFull

/-- `Get(irb)` (20_memory R64): the head sample and the state after; on an empty ring the fault of 93 I7. -/
def getIrb (s : State) : Sample × State :=
  match s.irb with
  | [] => (0, s.raise .ringEmpty)
  | v :: rest => (v, { s with irb := rest })

/-- `Put(orb, v)` (20_memory R65): append, or on a full ring what `ORB_OVERFLOW_POLICY` says. -/
def putOrb (v : Sample) (s : State) : State :=
  if s.orbCount < Config.orbCap then { s with orb := s.orb ++ [v] }
  else
    match s.par.orbOverflowPolicy with
    | .dropNew => { s with orbOvf := true }
    | .fault => s.raise .orbOverflow

/-- `for j in 1..n: Put(orb, v)`. -/
def putOrbTimes (n : Nat) (v : Sample) (s : State) : State :=
  match n with
  | 0 => s
  | m + 1 => putOrbTimes m v (putOrb v s)

/-- `Get(orb)` (20_memory R66): the head sample and the state after; on an empty ring the fault of 93 I7. -/
def getOrb (s : State) : Sample × State :=
  match s.orb with
  | [] => (0, s.raise .ringEmpty)
  | v :: rest => (v, { s with orb := rest })

/-- `Clear(orb)` (20_memory R66) together with the flag, as RESET does (44_drain_reset R241). -/
def clearOrb (s : State) : State := { s with orb := [], orbOvf := false }

/-! ### Registers that only the state machine, MODE_WR and RESET write -/

/-- `state <- c`; a change is traced by `log.transition(old, new)` (60_exceptions R265, log entry 13). -/
def setCtl (c : Ctl) (s : State) : State :=
  if s.state = c then s else { s with state := c }.record (.logTransition s.state c)

/-- `decode_en <- b; adc_det_en <- b` (10_state R27, R28). -/
def setLines (b : Bool) (s : State) : State := { s with decodeEn := b, adcDetEn := b }

/-- The values of `mode` (30_encoding R103); 3 is an alias of `OTHER`. -/
def modeIdle : ModeWord := 0
/-- `FM` = 1 (30_encoding R103). -/
def modeFm : ModeWord := 1
/-- `OTHER` = 2 (30_encoding R103). -/
def modeOther : ModeWord := 2

/-- `mode == FM`, "active relay mode" (92 D9); the only test on `mode` (30_encoding R103). -/
def State.fm (s : State) : Bool := s.mode == modeFm

/-- `mode <- m`. -/
def setMode (m : ModeWord) (s : State) : State := { s with mode := m }

/-! ### Between operations -/

/-- The host sends one word on the command port (30_encoding R90). -/
def State.send (w : CmdWord) (s : State) : State := { s with cmd := s.cmd ++ [w] }

/-- The input `rst` (70_reset R280): the power-on column of 10_state R41 for this instance of the block. -/
def State.powerOn (s : State) : State := { State.reset with par := s.par }

end Sys2Proof.Machine
end

