-- ==== Sys2Proof/Machine/Collab.lean ====
section
/-! DEFINITION. The calls to the collaborators (60_exceptions R256 to R265). An answer is what stands first on the
collaborator's response channel (10_state R38) or, with nothing there, the free value of `Config` for the collaborator's hidden
state and the call (log entries 3 and 4). The assumptions A1, A2, A3 and A5 of 60_exceptions R266 hold by construction. -/

namespace Sys2Proof.Machine

/-! ### Generators (60_exceptions R259 to R261) -/

/-- Generator `k`. -/
def State.gen (k : GenId) (s : State) : Gen :=
  match k with
  | .idgen => s.env.idgen
  | .ackgen => s.env.ackgen
  | .totone => s.env.totone

/-- The state with generator `k` replaced. -/
def State.setGen (k : GenId) (g : Gen) (s : State) : State :=
  match k with
  | .idgen => { s with env := { s.env with idgen := g } }
  | .ackgen => { s with env := { s.env with ackgen := g } }
  | .totone => { s with env := { s.env with totone := g } }

/-- What the generator answers to call `c`. -/
def Gen.reply (k : GenId) (c : GenCall) (g : Gen) : GenReply :=
  g.replies.headD (Config.genReply k g.running g.wanted g.pos c)

/-- The generator after a call with an effect: whether it runs and is wanted is its own affair (60_exceptions R266). -/
def Gen.after (k : GenId) (c : GenCall) (g : Gen) : Gen where
  running := (g.reply k c).running
  wanted := (g.reply k c).wanted
  stopped := false
  pos := Config.genPos k g.running g.wanted g.pos c
  replies := g.replies.tail

/-- The generator after `stop()`: not running at once (A2); a second `stop()` in a row changes nothing (A5); whether it is
still wanted is free. -/
def Gen.afterStop (k : GenId) (g : Gen) : Gen :=
  { (if g.stopped then g else g.after k .stop) with running := false, stopped := true }

/-- The sample an audio pull returns: 0 when the generator is not running (A1). -/
def Gen.pulled (k : GenId) (p : Pull) (g : Gen) : Sample :=
  if g.running then (g.reply k (.pull p)).audio else 0

/-- `k.start()`. -/
def genStart (k : GenId) (s : State) : State :=
  (s.setGen k ((s.gen k).after k .start)).record (.genStart k)

/-- `k.stop()`. -/
def genStop (k : GenId) (s : State) : State :=
  (s.setGen k ((s.gen k).afterStop k)).record (.genStop k)

/-- `k.isRunning()`, no effect on the generator (A3). -/
def genIsRunning (k : GenId) (s : State) : Bool × State :=
  ((s.gen k).running, s.record (.genIsRunning k (s.gen k).running))

/-- `k.isWanted()`, no effect on the generator (A3). -/
def genIsWanted (k : GenId) (s : State) : Bool × State :=
  ((s.gen k).wanted, s.record (.genIsWanted k (s.gen k).wanted))

/-- `k.getHighAudio()`, `k.getLowAudio()`, `k.getAudio()`. -/
def genPull (k : GenId) (p : Pull) (s : State) : Sample × State :=
  ((s.gen k).pulled k p,
    (s.setGen k ((s.gen k).after k (.pull p))).record (.genPull k p ((s.gen k).pulled k p)))

/-- `k.setParams(P) -> code`, for the generators that validate (`idgen`, `ackgen`). -/
def genSetParams (k : GenId) (p : Payload) (s : State) : StatusCode × State :=
  (((s.gen k).reply k (.setParams p)).code,
    (s.setGen k ((s.gen k).after k (.setParams p))).record
      (.genSetParams k p ((s.gen k).reply k (.setParams p)).code))

/-- `totone.setParams(P)`, with no status (60_exceptions R261). -/
def totoneSetParams (p : Payload) (s : State) : State :=
  (s.setGen .totone ((s.gen .totone).after .totone (.setParams p))).record (.totoneSetParams p)

/-! ### The CTCSS decoder (60_exceptions R257) -/

/-- The decoder's answer to `process(x)`: all four combinations can occur (30_encoding R104). -/
def Decoder.answer (x : Sample) (d : Decoder) : RxAnswer := d.replies.headD (Config.rxAnswer d.st x)

/-- The decoder's code for `setParams(p)`. -/
def Decoder.code (p : Payload) (d : Decoder) : StatusCode := d.codes.headD (Config.rxCode d.st p)

/-- `ctcss_rx.process(x) -> (ready, valid)`. -/
def rxProcess (x : Sample) (s : State) : RxAnswer × State :=
  let d := s.env.rx
  let d' := { d with st := Config.rxNext d.st (.process x), clean := false, replies := d.replies.tail }
  (d.answer x, { s with env := { s.env with rx := d' } }.record (.rxProcess x (d.answer x)))

/-- `ctcss_rx.reset()`, idempotent (A5). -/
def rxReset (s : State) : State :=
  let d := s.env.rx
  let d' := if d.clean then d else { d with st := Config.rxNext d.st .reset, clean := true }
  { s with env := { s.env with rx := d' } }.record .rxReset

/-- `ctcss_rx.setParams(P_rx) -> code`. -/
def rxSetParams (p : Payload) (s : State) : StatusCode × State :=
  let d := s.env.rx
  let d' := { d with st := Config.rxNext d.st (.setParams p), clean := false, codes := d.codes.tail }
  (d.code p, { s with env := { s.env with rx := d' } }.record (.rxSetParams p (d.code p)))

/-! ### The CTCSS encoder (60_exceptions R258) -/

/-- The encoder's sample for `getAudio()`. -/
def Encoder.sample (t : Encoder) : Sample := t.audio.headD (Config.txAudio t.st)

/-- The encoder's code for `setParams(p)`. -/
def Encoder.code (p : Payload) (t : Encoder) : StatusCode := t.codes.headD (Config.txCode t.st p)

/-- `ctcss_tx.getAudio() -> sample`. -/
def txGetAudio (s : State) : Sample × State :=
  let t := s.env.tx
  let t' := { t with st := Config.txNext t.st .getAudio, audio := t.audio.tail }
  (t.sample, { s with env := { s.env with tx := t' } }.record (.txGetAudio t.sample))

/-- `ctcss_tx.setParams(P_tx) -> code`. -/
def txSetParams (p : Payload) (s : State) : StatusCode × State :=
  let t := s.env.tx
  let t' := { t with st := Config.txNext t.st (.setParams p), codes := t.codes.tail }
  (t.code p, { s with env := { s.env with tx := t' } }.record (.txSetParams p (t.code p)))

/-! ### The blanker and the low-pass stages (60_exceptions R262, R263) -/

/-- `Blank`, an uninterpreted function of state and sample (and of the parameters last handed over, log entry 8). -/
def blankFn (par : Option Payload) (st : FilterState) (x : Sample) : FilterState × Sample :=
  match st with
  | .abs n => (.abs (Config.blankNext par n x), Config.blankOut par n x)
  | .thru => (.thru, x)

/-- `Lpf_j`, an uninterpreted function of state and sample. -/
def lpfFn (j : Fin 3) (st : FilterState) (y : Sample) : FilterState × Sample :=
  match st with
  | .abs n => (.abs (Config.lpfNext j n y), Config.lpfOut j n y)
  | .thru => (.thru, y)

/-- `blank.process(x) -> sample`. -/
def blankProcess (x : Sample) (s : State) : Sample × State :=
  let r := blankFn s.env.blankParams s.filt.blank x
  (r.2, { s with filt := { s.filt with blank := r.1 } }.record (.blankProcess x r.2))

/-- `blank.setParams(P_blank)`, with no status; `blank_state` is not written (10_state R35). -/
def blankSetParams (p : Payload) (s : State) : State :=
  { s with env := { s.env with blankParams := some p } }.record (.blankSetParams p)

/-- `lpf1.filter(y)`. -/
def lpf1Filter (y : Sample) (s : State) : Sample × State :=
  let r := lpfFn 0 s.filt.lpf1 y
  (r.2, { s with filt := { s.filt with lpf1 := r.1 } }.record (.lpfFilter 0 y r.2))

/-- `lpf2.filter(y)`. -/
def lpf2Filter (y : Sample) (s : State) : Sample × State :=
  let r := lpfFn 1 s.filt.lpf2 y
  (r.2, { s with filt := { s.filt with lpf2 := r.1 } }.record (.lpfFilter 1 y r.2))

/-- `lpf3.filter(y)`. -/
def lpf3Filter (y : Sample) (s : State) : Sample × State :=
  let r := lpfFn 2 s.filt.lpf3 y
  (r.2, { s with filt := { s.filt with lpf3 := r.1 } }.record (.lpfFilter 2 y r.2))

/-! ### The sink (60_exceptions R264) -/

/-- The free capacity the sink reports. -/
def Sink.space (k : Sink) : Nat := k.spaces.headD (Config.sinkSpace k.st k.asked)

/-- `sink.space()`: no effect on the sink (A3); the answer is asked afresh each time (44_drain_reset R240, log entry 6). -/
def sinkSpace (s : State) : Nat × State :=
  let k := s.env.sink
  let k' := { k with asked := k.asked + 1, spaces := k.spaces.tail }
  (k.space, { s with env := { s.env with sink := k' } }.record (.sinkSpace k.space))

/-- `sink.write(tag, v)`. -/
def sinkWrite (tag : Nat) (v : Sample) (s : State) : State :=
  let k := s.env.sink
  { s with env := { s.env with sink := { k with st := Config.sinkNext k.st tag v } } }.record (.sinkWrite tag v)

end Sys2Proof.Machine
end

