-- ==== Sys2Proof/Machine/Flags.lean ====
section
/-! DEFINITION. The result registers `status`, `refused`, `refuse_code` (10_state R33), which every operation writes when it
ends, and the refusal (60_exceptions R252), the block's only answer to an input it does not perform. The sticky flag `orb_ovf`
is set in `putOrb` and cleared in `clearOrb`; the block has no condition codes (10_state R34). -/

namespace Sys2Proof.Machine

/-- `RF_ILLEGAL` = 1 (30_encoding R106). -/
def rfIllegal : BitVec 3 := 1

/-- `RF_RXLEVEL_ZERO` = 2 (30_encoding R106). -/
def rfRxlevelZero : BitVec 3 := 2

/-- An operation is performed: `status <- code; refused <- 0; refuse_code <- 0`. -/
def finish (code : StatusCode) (s : State) : State :=
  { s with res := { status := code, refused := false, refuseCode := 0 } }

/-- An operation is refused for reason `r`: `status <- 0; refused <- 1; refuse_code <- r`, nothing else changes and no
collaborator is called (60_exceptions R252). -/
def refuse (r : BitVec 3) (s : State) : State :=
  { s with res := { status := 0, refused := true, refuseCode := r } }

end Sys2Proof.Machine
end

