-- ==== Sys2Proof/Machine/Operands.lean ====
section
/-! DEFINITION. How operands become values: 30_encoding R99 and the first steps of the signal path (41_signal_path R142, R144,
R148). An operand not named here is used as the packet carries it. -/

namespace Sys2Proof.Machine

/-- A number of minutes as ticks: the field times `TICKS_PER_MIN` (30_encoding R99 (b), 40_timers R129). -/
def minutesToTicks (m : BitVec 8) : Ticks := BitVec.ofNat 32 (Config.ticksPerMin * m.toNat)

/-- Squelch source resolution: the effective carrier flag `c` (41_signal_path R142). -/
def carrier (g : Cfg) (cos : Bool) : Bool := if g.useCos then xor cos g.cosInvert else true

/-- Level scaling of a raw sample (41_signal_path R144): `sat16(tdiv(sext_16(s) * 2^RX_PRESCALE_SHIFT, rx_level))`. -/
def scale (p : Params) (g : Cfg) (raw : Sample) : Sample :=
  sat16 (tdiv (raw.toInt * 2 ^ p.rxPrescaleShift.val) g.rxLevel.toNat)

/-- `v <- valid && c` (41_signal_path R148). -/
def validSignal (a : RxAnswer) (c : Bool) : Bool := a.valid && c

/-- The RF audio boost of a blanked sample (41_signal_path R151): `sat16(b * rf_audio_boost)`. -/
def boost (g : Cfg) (b : Sample) : Sample := sat16 (b.toInt * g.rfAudioBoost.toNat)

end Sys2Proof.Machine
end

