-- ==== Sys2Proof/Machine/Timers.lean ====
section
/-! DEFINITION. The timer set: the primitives of 40_timers R121 to R128. -/

namespace Sys2Proof.Machine

/-! ### One timer -/

/-- `Configure` (40_timers R121): `run` and `el` are left as they are. -/
def Timer.configure (d o : Ticks) (t : Timer) : Timer := { t with dur := d, off := o }

/-- `Start` (40_timers R122): nothing on a timer of duration 0, else run from `off`. -/
def Timer.start (t : Timer) : Timer := if 0#32 < t.dur then { t with run := true, el := t.off } else t

/-- `Stop` (40_timers R123). -/
def Timer.stop (t : Timer) : Timer := { t with run := false }

/-- `Clock` (40_timers R124): a running timer advances by `n`, saturating. -/
def Timer.clock (n : Nat) (t : Timer) : Timer := if t.run then { t with el := satadd32 t.el n } else t

/-- `Expired` (40_timers R125): `el >= dur`, whether or not the timer runs. -/
def Timer.expired (t : Timer) : Bool := decide (t.dur ≤ t.el)

/-! ### The set -/

/-- `T[k]`. -/
def Timers.get (k : TimerId) (ts : Timers) : Timer :=
  match k with
  | .id => ts.id
  | .ackDly => ts.ackDly
  | .minAck => ts.minAck
  | .timeout => ts.timeout
  | .hold => ts.hold
  | .hang => ts.hang
  | .ker => ts.ker

/-- The set with `T[k]` changed by `f`. -/
def Timers.modify (k : TimerId) (f : Timer → Timer) (ts : Timers) : Timers :=
  match k with
  | .id => { ts with id := f ts.id }
  | .ackDly => { ts with ackDly := f ts.ackDly }
  | .minAck => { ts with minAck := f ts.minAck }
  | .timeout => { ts with timeout := f ts.timeout }
  | .hold => { ts with hold := f ts.hold }
  | .hang => { ts with hang := f ts.hang }
  | .ker => { ts with ker := f ts.ker }

/-- The set with every timer changed by `f`. -/
def Timers.map (f : Timer → Timer) (ts : Timers) : Timers where
  id := f ts.id
  ackDly := f ts.ackDly
  minAck := f ts.minAck
  timeout := f ts.timeout
  hold := f ts.hold
  hang := f ts.hang
  ker := f ts.ker

/-- `T[k]` of the block. -/
def State.timer (k : TimerId) (s : State) : Timer := s.tmr.get k

/-- The block with `T[k]` changed by `f`. -/
def State.modTimer (k : TimerId) (f : Timer → Timer) (s : State) : State := { s with tmr := s.tmr.modify k f }

/-- `Configure(k, d, o)` (40_timers R121). -/
def timerConfigure (k : TimerId) (d o : Ticks) (s : State) : State := s.modTimer k (Timer.configure d o)

/-- `Start(k)` (40_timers R122). -/
def timerStart (k : TimerId) (s : State) : State := s.modTimer k Timer.start

/-- `Stop(k)` (40_timers R123). -/
def timerStop (k : TimerId) (s : State) : State := s.modTimer k Timer.stop

/-- `Expired(k)` (40_timers R125). -/
def timerExpired (k : TimerId) (s : State) : Bool := (s.timer k).expired

/-- `Running(k)` (40_timers R126). -/
def timerRunning (k : TimerId) (s : State) : Bool := (s.timer k).run

/-- `ClockAll(n)` (40_timers R127): all seven timers take the same tick count. -/
def clockAll (n : Nat) (s : State) : State := { s with tmr := s.tmr.map (Timer.clock n) }

/-- `StopAll()` (40_timers R128): the holdoff timer is stopped when `STOPALL_HOLDOFF` is true. -/
def stopAll (s : State) : State :=
  let s := timerStop .ker (timerStop .hang (timerStop .timeout (timerStop .minAck (timerStop .ackDly (timerStop .id s)))))
  if s.par.stopAllHoldoff then timerStop .hold s else s

end Sys2Proof.Machine
end

