-- ==== Sys2Proof/Machine/Configuration.lean ====
section
/-! DEFINITION. The operations that write configuration and the shared mode: SET_CALLSIGN, SET_ACK, SET_MISC, MODE_WR
(43_config R220 to R226). The block's registers are written before the collaborator is asked and stay written if it
rejects (R220, R225). -/

namespace Sys2Proof.Machine

/-- The block's own part of SET_CALLSIGN (43_config R221). -/
def storeCallsign (atStart atEnd atLatch : Bool) (holdoffMin repeatMin : BitVec 8) (s : State) : State :=
  let h := minutesToTicks holdoffMin
  let r := minutesToTicks repeatMin
  let s := { s with cfg := { s.cfg with atStart := atStart, atEnd := atEnd, atLatch := atLatch } }
  let s := timerConfigure .hold h 0 s
  let s := if 0#32 < h then timerStart .hold s else s
  timerConfigure .id r 0 s

/-- SET_CALLSIGN (43_config R221). -/
def execSetCallsign (atStart atEnd atLatch : Bool) (holdoffMin repeatMin : BitVec 8) (s : State) :
    Host.Outcome State Fault Refusal :=
  let s := storeCallsign atStart atEnd atLatch holdoffMin repeatMin s.beginOp
  let r := genSetParams .idgen s.payload.pId s
  .next (finish r.1 r.2)

/-- The block's own part of SET_ACK (43_config R222): with `min_time = 0` the minimum-ack timer is not configured. -/
def storeAck (minTime delay : Ticks) (s : State) : State :=
  let s := timerConfigure .ackDly delay s.par.ackDelayOffset s
  if 0#32 < minTime then timerConfigure .minAck minTime 0 s else s

/-- SET_ACK (43_config R222). -/
def execSetAck (minTime delay : Ticks) (s : State) : Host.Outcome State Fault Refusal :=
  let s := storeAck minTime delay s.beginOp
  let r := genSetParams .ackgen s.payload.pAck s
  .next (finish r.1 r.2)

/-- SET_MISC up to the decoder: registers, timers, the two collaborators that return no status, then `rx_level`
(43_config R223). -/
def storeMisc (useCos cosInvert : Bool) (boost : BitVec 8) (rxLevel : BitVec 16) (timeout kerchunk hang : Ticks)
    (s : State) : State :=
  let s := { s with cfg := { s.cfg with useCos := useCos, cosInvert := cosInvert, rfAudioBoost := boost } }
  let s := timerConfigure .hang hang 0 (timerConfigure .ker kerchunk 0 (timerConfigure .timeout timeout 0 s))
  let s := blankSetParams s.payload.pBlank (totoneSetParams s.payload.pTo s)
  { s with cfg := { s.cfg with rxLevel := rxLevel } }

/-- SET_MISC (43_config R223): a decoder that rejects ends it before the encoder is asked. -/
def execSetMisc (useCos cosInvert : Bool) (boost : BitVec 8) (rxLevel : BitVec 16) (timeout kerchunk hang : Ticks)
    (s : State) : Host.Outcome State Fault Refusal :=
  let s := storeMisc useCos cosInvert boost rxLevel timeout kerchunk hang s.beginOp
  let r := rxSetParams s.payload.pRx s
  let q := if r.1 ≠ 0 then r else txSetParams r.2.payload.pTx r.2
  .next (finish q.1 q.2)

/-- MODE_WR (43_config R224): it does not run the state machine. -/
def execModeWr (m : ModeWord) (s : State) : Host.Outcome State Fault Refusal :=
  .next (finish 0 (setMode m s.beginOp))

end Sys2Proof.Machine
end

