-- ==== Sys2Proof/Machine/DrainReset.lean ====
section
/-! DEFINITION. DRAIN and RESET (44_drain_reset R240 to R243). -/

namespace Sys2Proof.Machine

/-- `while Count(orb) > 0 && sink.space() > SINK_HEADROOM: sink.write(FM_TAG, Get(orb))` (44_drain_reset R240). Each
iteration removes one sample, so `Count(orb)` rounds of fuel let the loop end by its own test. The space is not asked when
the ring is empty (log entry 14). -/
def drainLoop (fuel : Nat) (s : State) : State :=
  match fuel with
  | 0 => s
  | n + 1 =>
    if 0 < s.orbCount then
      let sp := sinkSpace s
      if sp.2.par.sinkHeadroom < sp.1 then
        let g := getOrb sp.2
        drainLoop n (sinkWrite g.2.par.fmTag g.1 g.2)
      else sp.2
    else s

/-- DRAIN (44_drain_reset R240). -/
def execDrain (s : State) : Host.Outcome State Fault Refusal :=
  .next (finish 0 (drainLoop s.orbCount s.beginOp))

/-- RESET (44_drain_reset R241), in the document's order. -/
def execReset (s : State) : Host.Outcome State Fault Refusal :=
  let s := stopAll (setCtl .listening s.beginOp)
  let s := genStop .totone (genStop .ackgen (genStop .idgen (rxReset s)))
  .next (finish 0 (clearOrb s))

end Sys2Proof.Machine
end

