-- ==== Sys2Proof/Machine/StateMachine.lean ====
section
/-! DEFINITION. The repeater state machine: Eval, its helpers and its seven handlers (42_state_machine R180 to R201). -/

namespace Sys2Proof.Machine

/-! ### Helpers -/

/-- `SendId()` (42_state_machine R182). -/
def sendId (s : State) : State :=
  if timerRunning .hold s then
    if timerExpired .hold s then timerStart .hold (genStart .idgen s) else s
  else genStart .idgen s

/-- `BeginRelaying()` (42_state_machine R183). -/
def beginRelaying (s : State) : State := timerStart .minAck (timerStart .timeout s)

/-- `InsertSilence()` (42_state_machine R184): 1200 zeros at once, not gated by `mode`. -/
def insertSilence (s : State) : State := putOrbTimes Config.silenceLen 0 s

/-- `IdRepeatCheck()` (42_state_machine R185): `T_ID` is restarted even when SendId suppressed the identification. -/
def idRepeatCheck (s : State) : State :=
  if timerRunning .id s && timerExpired .id s then timerStart .id (sendId s) else s

/-! ### The handlers -/

/-- The common actions on leaving LISTENING, in the order of 42_state_machine R188. -/
def keyUp (s : State) : State :=
  setMode modeFm (setLines true (timerStart .id (beginRelaying (insertSilence s))))

/-- `LISTENING` (42_state_machine R186 to R189). -/
def listening (v : Bool) (s : State) : State :=
  if v then
    if 0#32 < (s.timer .ker).dur then
      let s := timerStart .ker (setCtl .kerchunk s)
      keyUp (if s.cfg.atStart && !s.cfg.atLatch then sendId s else s)
    else
      let s := setCtl .relaying s
      keyUp (if s.cfg.atStart then sendId s else s)
  else s

/-- `KERCHUNK` (42_state_machine R190, R191). -/
def kerchunk (v : Bool) (s : State) : State :=
  if v then
    if timerExpired .ker s then
      let s := timerStop .ker (setCtl .relaying s)
      if s.cfg.atStart && s.cfg.atLatch then timerStart .id (sendId s) else s
    else s
  else
    let s := setLines false (setCtl .listening s)
    timerStop .id (timerStop .minAck (timerStop .timeout (timerStop .ker s)))

/-- `RELAYING`, the branch on `v` (42_state_machine R192, R193). -/
def relaying (v : Bool) (s : State) : State :=
  if v then
    if timerRunning .timeout s && timerExpired .timeout s then
      genStart .totone (timerStop .timeout (timerStop .minAck (setCtl .timeout s)))
    else s
  else timerStart .ackDly (setCtl .relayingWait (setLines false s))

/-- The acknowledgement of a transmission that was long enough (42_state_machine R195): a minimum-ack timer that runs and has
not expired suppresses it and keeps running. -/
def ackIfEarned (s : State) : State :=
  if !timerRunning .minAck s || timerExpired .minAck s then timerStop .minAck (genStart .ackgen s) else s

/-- `RELAYING_WAIT`, the branch on `v` (42_state_machine R194, R195). -/
def relayingWait (v : Bool) (s : State) : State :=
  if v then timerStop .ackDly (setCtl .relaying (setLines true s))
  else if timerExpired .ackDly s then
    timerStart .hang (timerStop .timeout (timerStop .ackDly (ackIfEarned (setCtl .hang s))))
  else s

/-- `HANG`, the branch on `v` (42_state_machine R196, R197). -/
def hang (v : Bool) (s : State) : State :=
  if v then beginRelaying (genStop .ackgen (setCtl .relaying (setLines true s)))
  else if timerExpired .hang s then
    let s := timerStop .hang (setCtl .listening s)
    timerStop .id (if s.cfg.atEnd then sendId s else s)
  else s

/-- `TIMEOUT`, the branch on `v` (42_state_machine R198). -/
def timeout (v : Bool) (s : State) : State :=
  if v then s else timerStart .ackDly (setCtl .timeoutWait (setLines false s))

/-- `TIMEOUT_WAIT`, the branch on `v` (42_state_machine R199, R200). -/
def timeoutWait (v : Bool) (s : State) : State :=
  if v then timerStop .ackDly (setCtl .timeout (setLines true s))
  else if timerExpired .ackDly s then
    timerStart .hang (timerStop .timeout (timerStop .minAck (timerStop .ackDly
      (genStart .ackgen (genStop .totone (setCtl .hang s))))))
  else s

/-! ### One evaluation -/

/-- The handler of the state at entry, with the periodic identification check in the five states that have it
(42_state_machine R180, R181, R185). -/
def handler (v : Bool) (s : State) : State :=
  match s.state with
  | .listening => listening v s
  | .kerchunk => kerchunk v s
  | .relaying => idRepeatCheck (relaying v s)
  | .relayingWait => idRepeatCheck (relayingWait v s)
  | .timeout => idRepeatCheck (timeout v s)
  | .timeoutWait => idRepeatCheck (timeoutWait v s)
  | .hang => idRepeatCheck (hang v s)

/-- `PostTransition()` (42_state_machine R201). The conjunction is evaluated from the left and stops at the first false
(log entry 14). -/
def postTransition (s : State) : State :=
  if s.state = .listening ∧ s.fm then
    let w := genIsWanted .idgen s
    if w.1 then w.2
    else
      let w := genIsWanted .ackgen w.2
      if w.1 then w.2 else stopAll (setMode modeIdle w.2)
  else s

/-- `Eval(v)` (42_state_machine R180). -/
def eval (v : Bool) (s : State) : State := postTransition (handler v s)

end Sys2Proof.Machine
end

