-- ==== Sys2Proof/Machine/SignalPath.lean ====
section
/-! DEFINITION. SAMPLES and the signal path: the normative pseudocode of 41_signal_path R159. -/

namespace Sys2Proof.Machine

/-! ### The evaluation policy (41_signal_path R147) -/

/-- The five cases of 41_signal_path R147. -/
inductive PolicyCase
  /-- no evaluation, the sample is dropped -/
  | p1
  /-- evaluate; drop the sample unless `mode` has just become FM -/
  | p2
  /-- evaluate; leave the loop if `mode` has just left FM -/
  | p3
  /-- evaluate once, on the last sample -/
  | p4
  /-- no evaluation, the sample goes on -/
  | p5
deriving DecidableEq, Repr

/-- The case that applies, by `(ready, fm)` and whether the sample is the block's last (41_signal_path R147). -/
def policyCase (ready fm last : Bool) : PolicyCase :=
  match ready, fm with
  | false, false => .p1
  | true, false => .p2
  | true, true => .p3
  | false, true => if last then .p4 else .p5

/-! ### Gate, mixer, filter, injection, output -/

/-- Squelch gating of content (41_signal_path R151). -/
def gate (x : Sample) (s : State) : Sample × State :=
  if s.state = .relaying ∨ s.state = .kerchunk then
    let b := blankProcess x s
    (boost b.2.cfg b.1, b.2)
  else (0, s)

/-- Mixing, acknowledgement (41_signal_path R152). -/
def mixAck (y : Sample) (s : State) : Sample × State :=
  let r := genIsRunning .idgen s
  if r.1 then (y, r.2)
  else
    let a := genPull .ackgen .high r.2
    (satAdd y a.1, a.2)

/-- Mixing, identification (41_signal_path R153): the high tone in LISTENING, the low tone otherwise. -/
def mixId (y : Sample) (s : State) : Sample × State :=
  let r := genIsRunning .ackgen s
  if r.1 then (y, r.2)
  else
    let a := genPull .idgen (if r.2.state = .listening then .high else .low) r.2
    (satAdd y a.1, a.2)

/-- Mixing, timeout tone (41_signal_path R154); `&&` stops at the first false (R160). -/
def mixTimeout (y : Sample) (s : State) : Sample × State :=
  let r := genIsRunning .idgen s
  if r.1 then (y, r.2)
  else
    let q := genIsRunning .ackgen r.2
    if q.1 then (y, q.2)
    else
      let a := genPull .totone .audio q.2
      (satAdd y a.1, a.2)

/-- The three mixing steps in order; each `isRunning` is asked afresh (41_signal_path R155). -/
def mix (y : Sample) (s : State) : Sample × State :=
  let a := mixAck y s
  let b := mixId a.1 a.2
  mixTimeout b.1 b.2

/-- The filter cascade, stages 1, 2, 3 (41_signal_path R156). -/
def filterCascade (y : Sample) (s : State) : Sample × State :=
  let a := lpf1Filter y s
  let b := lpf2Filter a.1 a.2
  lpf3Filter b.1 b.2

/-- CTCSS re-encode, after the filters (41_signal_path R157). -/
def inject (f3 : Sample) (s : State) : Sample × State :=
  let a := txGetAudio s
  (satAdd f3 a.1, a.2)

/-- Output gate (41_signal_path R158). -/
def outputGate (z : Sample) (s : State) : State := if s.fm then putOrb z s else s

/-- The steps of 41_signal_path R151 to R158 for the sample `x`. -/
def audioPath (x : Sample) (s : State) : State :=
  let y := gate x s
  let m := mix y.1 y.2
  let f := filterCascade m.1 m.2
  let z := inject f.1 f.2
  outputGate z.1 z.2

/-! ### One sample and the loop -/

/-- Delay compensation (41_signal_path R146). -/
def delay (x : Sample) (s : State) : Sample × State := if s.cfg.useCos then (x, s) else getIrb (putIrb x s)

/-- How the loop goes on after a sample. -/
inductive LoopExit
  | continue
  | break
deriving DecidableEq, Repr

/-- The evaluation policy and the rest of the sample's way, for the delayed sample `x` with decoder answer `a`. -/
def policyStep (c last : Bool) (a : RxAnswer) (x : Sample) (s : State) : LoopExit × State :=
  let v := validSignal a c
  match policyCase a.ready s.fm last with
  | .p1 => (.continue, s)
  | .p2 =>
    let s := eval v s
    if s.fm then (.continue, audioPath x s) else (.continue, s)
  | .p3 =>
    let s := eval v s
    if s.fm then (.continue, audioPath x s) else (.break, s)
  | .p4 => (.continue, audioPath x (eval v s))
  | .p5 => (.continue, audioPath x s)

/-- The loop body for one raw sample: scale, decode, delay, evaluate, and output (41_signal_path R144 to R158). -/
def sampleStep (c last : Bool) (raw : Sample) (s : State) : LoopExit × State :=
  let x := scale s.par s.cfg raw
  let a := rxProcess x s
  let d := delay x a.2
  policyStep c last a.1 d.1 d.2

/-- `for i in 0 .. n-1`: after a break the remaining samples are lost (41_signal_path R149 (e)). -/
def samplesLoop (c : Bool) (raws : List Sample) (s : State) : State :=
  match raws with
  | [] => s
  | raw :: rest =>
    match sampleStep c rest.isEmpty raw s with
    | (.continue, s') => samplesLoop c rest s'
    | (.break, s') => s'

/-- SAMPLES up to its result: the timers take all `n` ticks before the loop (41_signal_path R143, R159). -/
def samplesBody (cos : Bool) (raws : List Sample) (s : State) : State :=
  finish 0 (samplesLoop (carrier s.cfg cos) raws (clockAll raws.length s))

/-- SAMPLES (41_signal_path R140, R159); refused while `rx_level` is 0 (R141). -/
def execSamples (cos : Bool) (raws : List Sample) (s : State) : Host.Outcome State Fault Refusal :=
  if s.cfg.rxLevel = 0 then .next (refuse rfRxlevelZero s.beginOp)
  else
    let t := samplesBody cos raws s.beginOp
    match t.halt with
    | some f => .fault f
    | none => .next t

end Sys2Proof.Machine
end

