-- ==== Sys2Proof/Machine/Dispatch.lean ====
section
/-! DEFINITION. One arm per operation: its meaning. -/

namespace Sys2Proof.Machine

def exec (i : Instr) (s : State) : Host.Outcome State Fault Refusal :=
  match i with
  | .reset => Sys2Proof.Machine.execReset s
  | .setCallsign b e l h r => Sys2Proof.Machine.execSetCallsign b e l h r s
  | .setAck m d => Sys2Proof.Machine.execSetAck m d s
  | .setMisc c v b x t k h => Sys2Proof.Machine.execSetMisc c v b x t k h s
  | .samples c raws => Sys2Proof.Machine.execSamples c raws s
  | .drain => Sys2Proof.Machine.execDrain s
  | .modeWr m => Sys2Proof.Machine.execModeWr m s

end Sys2Proof.Machine
end

