-- ==== Sys2Proof/Machine/Step.lean ====
section
/-! DEFINITION. One step: the block takes the packet at the head of the command port and performs it atomically (30_encoding
R90, 00_scope R5). -/

namespace Sys2Proof.Machine

/-- One step. An illegal word 0 is a packet of one word and is refused (30_encoding R100); with no complete packet the block
waits and nothing changes (30_encoding R101). -/
def step (s : State) : Host.Outcome State Fault Refusal :=
  match decodePacket s.cmd with
  | .instr i rest => exec i { s with cmd := rest }
  | .illegal _ rest => .next (refuse rfIllegal { s with cmd := rest }.beginOp)
  | .wait => .next s

/-- `s` with the packet whose bits are `w` (bits above `nbits` zero) at the head of the command port. -/
def State.withFetchWord (s : State) (nbits w : Nat) : State := { s with cmd := tableWords nbits w ++ s.cmd }

end Sys2Proof.Machine
end

