-- ==== Sys2Proof/Machine/Assembler.lean ====
section
/-! DEFINITION. The textual form of an operation (30_encoding R107), with the pseudo-instructions (R108), as the test
vectors write it: a printer and a reader. Nothing on the command port reads text (log entry 19). -/

namespace Sys2Proof.Machine

/-- A flag as `0` or `1`. -/
def asmBit (b : Bool) : String := if b then "1" else "0"

/-- The samples of a SAMPLES line, each with its sign. -/
def asmSamples (s : List Sample) : String := String.join (s.map fun x => " " ++ toString x.toInt)

/-- The operation as one line of text (30_encoding R107). -/
def asm (i : Instr) : String :=
  match i with
  | .reset => "RESET"
  | .setCallsign b e l h r =>
    "SET_CALLSIGN start=" ++ asmBit b ++ " end=" ++ asmBit e ++ " latch=" ++ asmBit l ++ " holdoff=" ++ toString h.toNat ++
      " repeat=" ++ toString r.toNat
  | .setAck m d => "SET_ACK min=" ++ toString m.toNat ++ " delay=" ++ toString d.toNat
  | .setMisc c v b x t k h =>
    "SET_MISC cos=" ++ asmBit c ++ " inv=" ++ asmBit v ++ " boost=" ++ toString b.toNat ++ " rxlevel=" ++ toString x.toNat ++
      " timeout=" ++ toString t.toNat ++ " kerchunk=" ++ toString k.toNat ++ " hang=" ++ toString h.toNat
  | .samples c s => "SAMPLES cos=" ++ asmBit c ++ " n=" ++ toString s.length ++ " :" ++ asmSamples s
  | .drain => "DRAIN"
  | .modeWr m => "MODE_WR m=" ++ toString m.toNat

/-! ### Reading a line -/

/-- The words of a line before its comment. -/
def asmWords (line : List Char) : List String :=
  (((line.takeWhile (· ≠ ';')).splitOnP (· = ' ')).filter (· ≠ [])).map String.ofList

/-- A digit in the base. -/
def asmDigit (base : Nat) (c : Char) : Option Nat :=
  let n := c.toNat
  let d := if 48 ≤ n ∧ n ≤ 57 then n - 48 else if 65 ≤ n ∧ n ≤ 70 then n - 55 else if 97 ≤ n ∧ n ≤ 102 then n - 87 else base
  if d < base then some d else none

/-- At least one digit, the most significant first. -/
def asmDigits (base : Nat) (cs : List Char) : Option Nat :=
  if cs = [] then none else cs.foldl (fun acc c => acc.bind fun a => (asmDigit base c).map (base * a + ·)) (some 0)

/-- A natural number, decimal or `0x` hexadecimal. -/
def asmNat (cs : List Char) : Option Nat :=
  match cs with
  | '0' :: 'x' :: ds => asmDigits 16 ds
  | ds => asmDigits 10 ds

/-- A sample, -32768 to 32767. -/
def asmSample (w : String) : Option Sample :=
  let v : Option Int :=
    match w.toList with
    | '-' :: ds => (asmNat ds).map fun n => -(n : Int)
    | ds => (asmNat ds).map fun n => (n : Int)
  v.bind fun v => if -32768 ≤ v ∧ v ≤ 32767 then some (BitVec.ofInt 16 v) else none

/-- The word `key=value` with a value that fits `len` bits. -/
def asmField (key : String) (len : Nat) (w : String) : Option (BitVec len) :=
  if key.toList.isPrefixOf w.toList then
    (asmNat (w.toList.drop key.length)).bind fun n => if n < 2 ^ len then some (BitVec.ofNat len n) else none
  else none

/-- The word `key=0` or `key=1`. -/
def asmFlag (key : String) (w : String) : Option Bool := (asmField key 1 w).map fun b => b.getLsbD 0

/-- The operand of MODE_WR, by name or by number (30_encoding R103). -/
def asmMode (w : String) : Option ModeWord :=
  match w with
  | "m=IDLE" => some 0
  | "m=FM" => some 1
  | "m=OTHER" => some 2
  | _ => asmField "m=" 2 w

/-- One operation or pseudo-instruction other than REPEAT. -/
def asmReadOp (ws : List String) : Option Instr :=
  match ws with
  | ["RESET"] => some .reset
  | ["SET_CALLSIGN", b, e, l, h, r] => do
    return .setCallsign (← asmFlag "start=" b) (← asmFlag "end=" e) (← asmFlag "latch=" l) (← asmField "holdoff=" 8 h)
      (← asmField "repeat=" 8 r)
  | ["SET_ACK", m, d] => do return .setAck (← asmField "min=" 32 m) (← asmField "delay=" 32 d)
  | ["SET_MISC", c, v, b, x, t, k, h] => do
    return .setMisc (← asmFlag "cos=" c) (← asmFlag "inv=" v) (← asmField "boost=" 8 b) (← asmField "rxlevel=" 16 x)
      (← asmField "timeout=" 32 t) (← asmField "kerchunk=" 32 k) (← asmField "hang=" 32 h)
  | "SAMPLES" :: c :: n :: ":" :: s => do
    let raws ← s.mapM asmSample
    if raws.length = (← asmField "n=" 8 n).toNat then return .samples (← asmFlag "cos=" c) raws else none
  | ["SAMPLESC", c, n, v] => do
    if "v=".toList.isPrefixOf v.toList then
      return Instr.samplesC (← asmFlag "cos=" c) (← asmField "n=" 8 n).toNat (← asmSample (String.ofList (v.toList.drop 2)))
    else none
  | ["SAMPLESZ", c, n] => do return Instr.samplesZ (← asmFlag "cos=" c) (← asmField "n=" 8 n).toNat
  | ["CONFIG_MIN"] => some Instr.configMin
  | ["DRAIN"] => some .drain
  | ["MODE_WR", m] => (asmMode m).map .modeWr
  | _ => none

/-- The operations a line of text stands for; an empty line or a comment stands for none; `REPEAT <m> : <operation>` stands
for `m` copies. -/
def asmRead (line : String) : Option (List Instr) :=
  match asmWords line.toList with
  | [] => some []
  | "REPEAT" :: m :: ":" :: ws => do return Instr.repeated (← asmNat m.toList) (← asmReadOp ws)
  | ws => (asmReadOp ws).map fun i => [i]

end Sys2Proof.Machine
end

