-- ==== Sys2Proof/Machine/Ports.lean ====
section
/-! DEFINITION. What the host reads: the status outputs of 10_state R37, with the encodings of 30_encoding R102, R103, R105;
and the bit form of a decoder answer (30_encoding R104). -/

namespace Sys2Proof.Machine

/-- The encoding of ControllerState (30_encoding R102); 7 is no state. -/
def Ctl.code (c : Ctl) : BitVec 3 :=
  match c with
  | .listening => 0
  | .kerchunk => 1
  | .relaying => 2
  | .relayingWait => 3
  | .timeout => 4
  | .timeoutWait => 5
  | .hang => 6

/-- The status outputs (10_state R37). -/
structure Outputs where
  stateOut : BitVec 3
  modeOut : BitVec 2
  decodeEn : Bool
  adcDetEn : Bool
  orbCount : BitVec 12
  orbOvf : Bool
  status : BitVec 8
  refused : Bool
  refuseCode : BitVec 3
  runOut : BitVec 7
deriving DecidableEq, Repr

/-- `run_out[k] = T[k].run`, bit 6 (`T_KER`) first (10_state R37, 30_encoding R105). -/
def State.runOut (s : State) : BitVec 7 :=
  let bit := fun k => BitVec.ofBool (timerRunning k s)
  bit .ker ++ bit .hang ++ bit .hold ++ bit .timeout ++ bit .minAck ++ bit .ackDly ++ bit .id

/-- The status outputs, always the current registers (10_state R37). -/
def State.outputs (s : State) : Outputs where
  stateOut := s.state.code
  modeOut := s.mode
  decodeEn := s.decodeEn
  adcDetEn := s.adcDetEn
  orbCount := BitVec.ofNat 12 s.orbCount
  orbOvf := s.orbOvf
  status := s.res.status
  refused := s.res.refused
  refuseCode := s.res.refuseCode
  runOut := s.runOut

/-- A decoder answer from its two bits: bit 1 is `ready`, bit 0 is `valid` (30_encoding R104). -/
def rxAnswerOfBits (b : BitVec 2) : RxAnswer := { ready := b.getLsbD 1, valid := b.getLsbD 0 }

end Sys2Proof.Machine
end

