-- ==== Sys2Proof/Safety.lean ====
section
/-! DEFINITION. The terms claims are made in: the invariants of 10_state R40, the reserved fields of the packet formats
(30_encoding R92 to R97), and the transition relation of 42_state_machine R202 as a table apart from the code of `eval`. -/

namespace Sys2Proof.Machine

/-! ### Invariants -/

/-- What holds at the end of every operation from power-on (10_state R40). (a) and (f) hold by type. The kerchunk clause is
the inductive form of (c): `T_KER` runs in KERCHUNK only. -/
structure State.Inv (s : State) : Prop where
  /-- (b) -/
  lines : s.decodeEn = s.adcDetEn
  /-- (c) -/
  ker : s.state ≠ .kerchunk → (s.timer .ker).run = false
  /-- (d) -/
  irb : s.irb.length = Config.irbDelay
  /-- (e) -/
  orb : s.orb.length ≤ Config.orbCap
  /-- no operation is in progress -/
  halt : s.halt = none

/-- The two output lines follow the sequencing register outside LISTENING: on while a carrier is taken as present, off while
it is taken as lost (42_state_machine R188, R191, R193, R194, R196, R197, R198, R199). -/
structure State.LinesFollow (s : State) : Prop where
  same : s.decodeEn = s.adcDetEn
  on : s.state = .kerchunk ∨ s.state = .relaying ∨ s.state = .timeout → s.decodeEn = true
  off : s.state = .relayingWait ∨ s.state = .timeoutWait ∨ s.state = .hang → s.decodeEn = false

/-- `T[k].off` is hardwired to 0 for every `k` except `T_ACKDLY`, whose `off` is 0 or `ACK_DELAY_OFFSET` (10_state R26). -/
def State.OffsetsHardwired (s : State) : Prop :=
  (∀ k, k ≠ .ackDly → (s.timer k).off = 0) ∧
    ((s.timer .ackDly).off = 0 ∨ (s.timer .ackDly).off = s.par.ackDelayOffset)

/-! ### Legal words, field by field -/

/-- Word 0 has an opcode of 1 to 7 and zero in every field that 30_encoding R92 to R97 mark "zero". -/
def legalWord (w0 : CmdWord) : Prop :=
  let op := (field w0 28 4).toNat
  (op = 1 ∧ field w0 0 28 = 0) ∨ (op = 2 ∧ field w0 16 9 = 0) ∨ (op = 3 ∧ field w0 0 28 = 0) ∨
    (op = 4 ∧ field w0 24 2 = 0) ∨ (op = 5 ∧ field w0 8 19 = 0) ∨ (op = 6 ∧ field w0 0 28 = 0) ∨
    (op = 7 ∧ field w0 2 26 = 0)

/-! ### The transition relation (42_state_machine R202), read from the state at entry -/

/-- `exp(k)` and `run(k)` together. -/
def State.due (k : TimerId) (s : State) : Bool := timerRunning k s && timerExpired k s

/-- The column "next state". -/
def nextCtl (s : State) (v : Bool) : Ctl :=
  match s.state, v with
  | .listening, true => if 0#32 < (s.timer .ker).dur then .kerchunk else .relaying
  | .listening, false => .listening
  | .kerchunk, true => if timerExpired .ker s then .relaying else .kerchunk
  | .kerchunk, false => .listening
  | .relaying, true => if s.due .timeout then .timeout else .relaying
  | .relaying, false => .relayingWait
  | .relayingWait, true => .relaying
  | .relayingWait, false => if timerExpired .ackDly s then .hang else .relayingWait
  | .timeout, true => .timeout
  | .timeout, false => .timeoutWait
  | .timeoutWait, true => .timeout
  | .timeoutWait, false => if timerExpired .ackDly s then .hang else .timeoutWait
  | .hang, true => .relaying
  | .hang, false => if timerExpired .hang s then .listening else .hang

/-- The entries "lines <- b" of the column "actions": what is written to both lines, if anything. -/
def linesWritten (c : Ctl) (v : Bool) : Option Bool :=
  match c, v with
  | .listening, true => some true
  | .listening, false => none
  | .kerchunk, true => none
  | .kerchunk, false => some false
  | .relaying, true => none
  | .relaying, false => some false
  | .relayingWait, true => some true
  | .relayingWait, false => none
  | .timeout, true => none
  | .timeout, false => some false
  | .timeoutWait, true => some true
  | .timeoutWait, false => none
  | .hang, true => some true
  | .hang, false => none

/-- Whether the row invokes SendId, "+ID?" included: the placement flags of the row, or the periodic check. -/
def invokesSendId (s : State) (v : Bool) : Bool :=
  match s.state, v with
  | .listening, true => if 0#32 < (s.timer .ker).dur then s.cfg.atStart && !s.cfg.atLatch else s.cfg.atStart
  | .listening, false => false
  | .kerchunk, true => timerExpired .ker s && s.cfg.atStart && s.cfg.atLatch
  | .kerchunk, false => false
  | .relaying, _ => s.due .id
  | .relayingWait, _ => s.due .id
  | .timeout, _ => s.due .id
  | .timeoutWait, _ => s.due .id
  | .hang, true => s.due .id
  | .hang, false => if timerExpired .hang s then s.cfg.atEnd else s.due .id

/-- Whether an invoked SendId starts the identification generator (42_state_machine R182). -/
def holdoffAllows (s : State) : Bool := !timerRunning .hold s || timerExpired .hold s

/-- The starts and stops of generators in the row, in order (42_state_machine R202, R182). -/
def rowCommands (s : State) (v : Bool) : List Call :=
  let sid := if invokesSendId s v && holdoffAllows s then [Call.genStart .idgen] else []
  match s.state, v with
  | .relaying, true => (if s.due .timeout then [.genStart .totone] else []) ++ sid
  | .relayingWait, false =>
    (if timerExpired .ackDly s && (!timerRunning .minAck s || timerExpired .minAck s) then [.genStart .ackgen] else []) ++ sid
  | .timeoutWait, false => (if timerExpired .ackDly s then [.genStop .totone, .genStart .ackgen] else []) ++ sid
  | .hang, true => .genStop .ackgen :: sid
  | .listening, _ => sid
  | .kerchunk, _ => sid
  | .relaying, false => sid
  | .relayingWait, true => sid
  | .timeout, _ => sid
  | .timeoutWait, true => sid
  | .hang, false => sid

/-- Timer `k` after the row, before the post-transition rule (42_state_machine R202, R182, R185). -/
def rowTimer (s : State) (v : Bool) (k : TimerId) : Timer :=
  let t := s.timer k
  match k with
  | .hold => if invokesSendId s v && s.due .hold then t.start else t
  | .id =>
    match s.state, v with
    | .listening, true => t.start
    | .listening, false => t
    | .kerchunk, true => if invokesSendId s v then t.start else t
    | .kerchunk, false => t.stop
    | .hang, false => if timerExpired .hang s then t.stop else if s.due .id then t.start else t
    | .hang, true => if s.due .id then t.start else t
    | .relaying, _ => if s.due .id then t.start else t
    | .relayingWait, _ => if s.due .id then t.start else t
    | .timeout, _ => if s.due .id then t.start else t
    | .timeoutWait, _ => if s.due .id then t.start else t
  | .ker =>
    match s.state, v with
    | .listening, true => t.start
    | .kerchunk, true => if timerExpired .ker s then t.stop else t
    | .kerchunk, false => t.stop
    | _, _ => t
  | .timeout =>
    match s.state, v with
    | .listening, true => t.start
    | .kerchunk, false => t.stop
    | .relaying, true => if s.due .timeout then t.stop else t
    | .relayingWait, false => if timerExpired .ackDly s then t.stop else t
    | .timeoutWait, false => if timerExpired .ackDly s then t.stop else t
    | .hang, true => t.start
    | _, _ => t
  | .minAck =>
    match s.state, v with
    | .listening, true => t.start
    | .kerchunk, false => t.stop
    | .relaying, true => if s.due .timeout then t.stop else t
    | .relayingWait, false =>
      if timerExpired .ackDly s && (!timerRunning .minAck s || timerExpired .minAck s) then t.stop else t
    | .timeoutWait, false => if timerExpired .ackDly s then t.stop else t
    | .hang, true => t.start
    | _, _ => t
  | .ackDly =>
    match s.state, v with
    | .relaying, false => t.start
    | .relayingWait, true => t.stop
    | .relayingWait, false => if timerExpired .ackDly s then t.stop else t
    | .timeout, false => t.start
    | .timeoutWait, true => t.stop
    | .timeoutWait, false => if timerExpired .ackDly s then t.stop else t
    | _, _ => t
  | .hang =>
    match s.state, v with
    | .relayingWait, false => if timerExpired .ackDly s then t.start else t
    | .timeoutWait, false => if timerExpired .ackDly s then t.start else t
    | .hang, false => if timerExpired .hang s then t.stop else t
    | _, _ => t

/-- The row's condition for the last line of the table, "mode <- IDLE; StopAll", asked of the generators as they stand at
the end of the evaluation `t` (42_state_machine R201). -/
def demotes (s : State) (v : Bool) (t : State) : Bool :=
  nextCtl s v == .listening && s.fm && !(t.gen .idgen).wanted && !(t.gen .ackgen).wanted

/-- A call that starts or stops a generator. -/
def Call.isCommand (e : Call) : Bool :=
  match e with
  | .genStart _ => true
  | .genStop _ => true
  | _ => false

/-- A trace event of `log` (60_exceptions R265), which has no effect on any rule. -/
def Call.isTrace (e : Call) : Bool :=
  match e with
  | .logTransition _ _ => true
  | _ => false

/-- What the commands of a row leave of generator `k`. -/
def commanded (k : GenId) (es : List Call) (g : Gen) : Gen :=
  es.foldl (fun g e => if e = .genStart k then g.after k .start else if e = .genStop k then g.afterStop k else g) g

end Sys2Proof.Machine
end

