-- ==== Sys2Proof/Certificates/Slice0/Obligations.lean ====
section
/-! DEFINITION. The statements for the provers. Each docstring names the rule or section of spec/ it formalises. -/

open Sys2Proof Sys2Proof.Machine

/-! ### Encoding -/

/-- Sanity: words written out in 95_test_vectors 2.10 from 30_encoding R92 to R97 decode to the operations they stand for,
one per format, and an illegal word of each kind is rejected. Rests on the spec's decision D2 (92). -/
def Obligations.SpecWordsDecode : Prop :=
  decodePacket [0x10000000] = .instr .reset [] ∧
  decodePacket [0x2E00FFFF] = .instr (.setCallsign true true true 255 255) [] ∧
  decodePacket [0x30000000, 0x000003E8, 0x00000004] = .instr (.setAck 1000 4) [] ∧
  decodePacket [0x48030002, 0, 0, 6] = .instr (.setMisc true false 3 2 0 0 6) [] ∧
  decodePacket [0x58000004, 0x00000064, 0x1234FF38, 0x00007530, 0x00008AD0] =
    .instr (.samples true [100, BitVec.ofInt 16 (-200), 30000, BitVec.ofInt 16 (-30000)]) [] ∧
  decodePacket [0x60000000] = .instr .drain [] ∧
  decodePacket [0x70000003] = .instr (.modeWr 3) [] ∧
  decodePacket [0x50000100] = .illegal (.nonzeroReservedField 5) [] ∧
  decodePacket [0x80000000, 0x60000000] = .illegal (.reservedOpcode 8) [0x60000000]

/-- Decode and encode agree on every well-formed operation, whatever words follow it (30_encoding R92 to R97, R99, R101).
Rests on the spec's decision D2 (92). -/
def Obligations.DecodeEncodeRoundTrip : Prop :=
  ∀ (i : Instr) (rest : List CmdWord), i.wellFormed = true → decodePacket (encode i ++ rest) = .instr i rest

/-- A word 0 is refused exactly when its opcode is 0 or 8 to 15 or a field marked "zero" is not zero (30_encoding R91, R100);
it is decided before any operand word is taken, and only the one word is consumed.
Rests on the spec's decisions D2, D26 (92). -/
def Obligations.IllegalExactlyByOpcodeOrZeroField : Prop :=
  ∀ (w0 : CmdWord) (ops : List CmdWord),
    (legalWord w0 → ∀ why rest, decodePacket (w0 :: ops) ≠ .illegal why rest) ∧
    (¬ legalWord w0 → ∃ why, decodePacket (w0 :: ops) = .illegal why ops)

/-- "The rows are pairwise disjoint because the opcodes differ" (30_encoding R98).
Rests on the spec's decision D2 (92). -/
def Obligations.OpcodeRowsDisjoint : Prop :=
  ∀ w0 : CmdWord, ∀ r ∈ opcodeTable, ∀ q ∈ opcodeTable, r.selects w0 = true → q.selects w0 = true → r = q

/-- What is decoded is well-formed, and the words it takes are as many as word 0 says: 1, 3, 4 or `1 + w0[7:0]`
(30_encoding R101). Rests on the spec's decision D2 (92). -/
def Obligations.PacketLengthFromWordZero : Prop :=
  ∀ (w0 : CmdWord) (ops rest : List CmdWord) (i : Instr), decodePacket (w0 :: ops) = .instr i rest →
    i.wellFormed = true ∧
    (∃ taken, ops = taken ++ rest ∧ 1 + taken.length =
      match i with
      | .setAck _ _ => 3
      | .setMisc _ _ _ _ _ _ _ => 4
      | .samples _ _ => 1 + (field w0 0 8).toNat
      | .reset => 1
      | .setCallsign _ _ _ _ _ => 1
      | .drain => 1
      | .modeWr _ => 1)

/-- Bits 31:16 of a SAMPLES operand word are ignored (30_encoding R96, 93 I2): words that agree on bits 15:0 decode alike.
Rests on the spec's decision D2 (92). -/
def Obligations.SampleHighHalvesIgnored : Prop :=
  ∀ (w0 : CmdWord) (ops ops' rest : List CmdWord), legalWord w0 → (field w0 28 4).toNat = 5 →
    ops.length = (field w0 0 8).toNat → ops.map (fun w => field w 0 16) = ops'.map (fun w => field w 0 16) →
    decodePacket (w0 :: ops ++ rest) = decodePacket (w0 :: ops' ++ rest) ∧
    decodePacket (w0 :: ops ++ rest) = .instr (.samples (w0.getLsbD 27) (ops.map fun w => field w 0 16)) rest

/-! ### The step -/

/-- A step performs the operation at the head of the command port, its words consumed (30_encoding R90, 00_scope R5).
Rests on the spec's decisions D1, D2 (92). -/
def Obligations.StepRunsDecodedOperation : Prop :=
  ∀ (s : State) (i : Instr) (rest : List CmdWord),
    decodePacket s.cmd = .instr i rest → step s = exec i { s with cmd := rest }

/-- An illegal packet is one word long and is refused: `refused <- 1`, `refuse_code <- RF_ILLEGAL`, `status <- 0`, no other
state changes, no collaborator is called (30_encoding R100, 60_exceptions R252).
Rests on the spec's decision D26 (92). -/
def Obligations.StepRefusesIllegalWord : Prop :=
  ∀ (s : State) (w0 : CmdWord) (ops : List CmdWord), s.cmd = w0 :: ops → ¬ legalWord w0 →
    step s = .next { s with cmd := ops, res := ⟨0, true, 1⟩, calls := [], halt := none }

/-- With a packet begun and not complete, the block waits and nothing changes (30_encoding R101, 93 I8). The packet is given by
word 0 alone: a legal word with fewer words behind it than 2 for SET_ACK, 3 for SET_MISC and `w0[7:0]` for SAMPLES, whatever
those words hold, the ignored halves of SAMPLES operand words included (R96). With no word waiting nothing changes either.
Rests on the spec's decision D2 (92). -/
def Obligations.StepWaitsForMissingWords : Prop :=
  ∀ s : State,
    (s.cmd = [] → step s = .next s) ∧
    ∀ (w0 : CmdWord) (ops : List CmdWord), s.cmd = w0 :: ops → legalWord w0 →
      let op := (field w0 28 4).toNat
      ops.length < (if op = 3 then 2 else if op = 4 then 3 else if op = 5 then (field w0 0 8).toNat else 0) →
      step s = .next s

/-! ### Power-on, RESET -/

/-- The power-on column of 10_state R41 (70_reset R280; the values are the spec's decision D22). `lpf_init` and `blank_init`
are parameters, here as abstract states (log entry 7), that of each low-pass stage its own (log entry 20). Nothing is said of the
fields that column does not know. Rests on the spec's decisions D22, D29 (92). -/
def Obligations.PowerOnRegisters : Prop :=
  let s := State.reset
  s.state = .listening ∧ (∀ k, s.timer k = ⟨0, 0, 0, false⟩) ∧ s.decodeEn = false ∧ s.adcDetEn = false ∧
  s.mode = modeIdle ∧ s.cfg = ⟨false, false, false, false, false, 0, 0⟩ ∧ s.orbOvf = false ∧ s.res = ⟨0, false, 0⟩ ∧
  s.irb = List.replicate 2400 0 ∧ s.orb = [] ∧
  s.filt = ⟨.abs (Config.lpfInit 0), .abs (Config.lpfInit 1), .abs (Config.lpfInit 2), .abs Config.blankInit⟩ ∧
  (∀ k, (s.gen k).running = false ∧ (s.gen k).wanted = false)

/-- RESET (44_drain_reset R241): LISTENING, timers stopped, decoder reset and generators stopped in the document's order,
output ring and its flag cleared; nothing else is written. That `log.transition` stands before the other calls is the model's
choice (log entry 13). Rests on the spec's decisions D5, D19, D23 (92). -/
def Obligations.ResetReturnsToListening : Prop :=
  ∀ s : State, ∃ t, exec .reset s = .next t ∧
    t = { s with
      state := .listening, tmr := t.tmr, orb := [], orbOvf := false, res := ⟨0, false, 0⟩, calls := t.calls, halt := none,
      env := { s.env with rx := t.env.rx, idgen := t.env.idgen, ackgen := t.env.ackgen, totone := t.env.totone } } ∧
    (∀ k, t.timer k =
      { s.timer k with run := if k = .hold ∧ s.par.stopAllHoldoff = false then (s.timer k).run else false }) ∧
    t.calls.reverse = (if s.state = .listening then [] else [.logTransition s.state .listening]) ++
      [.rxReset, .genStop .idgen, .genStop .ackgen, .genStop .totone] ∧
    ∀ k, (t.gen k).running = false

/-- Idempotence of RESET (44_drain_reset R242): a second RESET changes nothing but the record of its own calls.
Rests on the spec's decision D29 (92). -/
def Obligations.ResetTwiceIsResetOnce : Prop :=
  ∀ s t u : State, exec .reset s = .next t → exec .reset t = .next u → u = { t with calls := u.calls }

/-! ### Configuration -/

/-- SET_CALLSIGN (43_config R221): flags stored, both periods in ticks of 1440000 a minute, the holdoff timer started only
if its duration is positive, the repeat timer not started, the generator's code returned; nothing else is written.
Rests on the spec's decisions D2, D7, D12, D24 (92). -/
def Obligations.SetCallsignStores : Prop :=
  ∀ (s : State) (b e l : Bool) (h r : BitVec 8), ∃ (t : State) (code : StatusCode), exec (.setCallsign b e l h r) s = .next t ∧
    t = { s with
      cfg := { s.cfg with atStart := b, atEnd := e, atLatch := l }, tmr := t.tmr, res := ⟨code, false, 0⟩,
      env := { s.env with idgen := t.env.idgen }, calls := [.genSetParams .idgen s.payload.pId code], halt := none } ∧
    (∀ k, k ≠ .hold → k ≠ .id → t.timer k = s.timer k) ∧
    (t.timer .hold).dur.toNat = 1440000 * h.toNat ∧ (t.timer .hold).off = 0 ∧
    (t.timer .hold).el = (if h = 0 then (s.timer .hold).el else 0) ∧
    (t.timer .hold).run = (if h = 0 then (s.timer .hold).run else true) ∧
    (t.timer .id).dur.toNat = 1440000 * r.toNat ∧ (t.timer .id).off = 0 ∧ (t.timer .id).el = (s.timer .id).el ∧
    (t.timer .id).run = (s.timer .id).run ∧
    ∀ a rest, s.env.idgen.replies = a :: rest → code = a.code

/-- SET_ACK (43_config R222): the ack-delay timer with the fixed offset, the minimum-ack timer only if `min_time` is
positive, neither started, the generator's code returned; nothing else is written; a delay of 0 reads as expired.
Rests on the spec's decisions D10, D11, D12, D24 (92). -/
def Obligations.SetAckStores : Prop :=
  ∀ (s : State) (m d : Ticks), ∃ (t : State) (code : StatusCode), exec (.setAck m d) s = .next t ∧
    t = { s with
      tmr := t.tmr, res := ⟨code, false, 0⟩, env := { s.env with ackgen := t.env.ackgen },
      calls := [.genSetParams .ackgen s.payload.pAck code], halt := none } ∧
    (∀ k, k ≠ .ackDly → k ≠ .minAck → t.timer k = s.timer k) ∧
    t.timer .ackDly = { s.timer .ackDly with dur := d, off := s.par.ackDelayOffset } ∧
    t.timer .minAck = (if m = 0 then s.timer .minAck else { s.timer .minAck with dur := m, off := 0 }) ∧
    (d = 0 → timerExpired .ackDly t = true) ∧
    ∀ a rest, s.env.ackgen.replies = a :: rest → code = a.code

/-- SET_MISC (43_config R223): every register and the three durations are written whatever the collaborators answer; a
decoder that rejects ends the operation with its code before the encoder is asked; no timer is started or stopped; a level
of 0 is stored and makes the next SAMPLES refuse. `blankParams` is the model's own field (log entry 8).
Rests on the spec's decisions D2, D12, D15, D24 (92). -/
def Obligations.SetMiscStores : Prop :=
  ∀ (s : State) (c v : Bool) (b : BitVec 8) (x : BitVec 16) (o k h : Ticks), ∃ (t : State) (code : StatusCode),
    exec (.setMisc c v b x o k h) s = .next t ∧
    t = { s with
      cfg := { s.cfg with useCos := c, cosInvert := v, rfAudioBoost := b, rxLevel := x }, tmr := t.tmr, res := t.res,
      env := { s.env with
        totone := t.env.totone, blankParams := some s.payload.pBlank, rx := t.env.rx,
        tx := if code = 0 then t.env.tx else s.env.tx },
      calls := t.calls, halt := none } ∧
    (∀ j, t.timer j =
      if j = .timeout then { s.timer j with dur := o, off := 0 }
      else if j = .ker then { s.timer j with dur := k, off := 0 }
      else if j = .hang then { s.timer j with dur := h, off := 0 } else s.timer j) ∧
    (if code = 0 then ∃ code' : StatusCode, t.res = ⟨code', false, 0⟩ ∧ t.calls.reverse =
        [.totoneSetParams s.payload.pTo, .blankSetParams s.payload.pBlank, .rxSetParams s.payload.pRx 0,
          .txSetParams s.payload.pTx code']
      else t.res = ⟨code, false, 0⟩ ∧ t.calls.reverse =
        [.totoneSetParams s.payload.pTo, .blankSetParams s.payload.pBlank, .rxSetParams s.payload.pRx code]) ∧
    (x = 0 → ∀ (cos : Bool) (raws : List Sample),
      exec (.samples cos raws) t = .next { t with res := ⟨0, true, 2⟩, calls := [], halt := none })

/-- MODE_WR (43_config R224): `mode` as written and the result; it does not run the state machine, stop timers or touch the
lines. Rests on the spec's decisions D4, D36 (92). -/
def Obligations.ModeWrWritesModeOnly : Prop :=
  ∀ (s : State) (m : ModeWord),
    exec (.modeWr m) s = .next { s with mode := m, res := ⟨0, false, 0⟩, calls := [], halt := none }

/-! ### DRAIN -/

/-- DRAIN (44_drain_reset R240): the oldest samples leave the ring in order, each after an answer of the sink above the
headroom and written with the tag; the loop ends when the ring is empty or at the first answer that is not above the
headroom; nothing else is written. That the space is not asked when the ring is empty is the model's reading of `&&` (log
entry 14, DEDUCED). Rests on the spec's decisions D18, D21 (92). -/
def Obligations.DrainMovesOldestSamples : Prop :=
  ∀ s : State, ∃ t, ∃ (spaces : List Nat) (stop : List Call), exec .drain s = .next t ∧
    t = { s with
      orb := s.orb.drop spaces.length, res := ⟨0, false, 0⟩, env := { s.env with sink := t.env.sink }, calls := t.calls,
      halt := none } ∧
    spaces.length ≤ s.orb.length ∧ (∀ n ∈ spaces, s.par.sinkHeadroom < n) ∧
    t.calls.reverse = (spaces.zip s.orb).flatMap (fun p => [.sinkSpace p.1, .sinkWrite s.par.fmTag p.2]) ++ stop ∧
    (spaces.length = s.orb.length ∧ stop = [] ∨
      spaces.length < s.orb.length ∧ ∃ n, n ≤ s.par.sinkHeadroom ∧ stop = [.sinkSpace n])

/-- The count of DRAIN (44_drain_reset R240): if each write lowers the free space by one and nothing else changes it, the
number written is `min(Count(orb), max(0, space0 - SINK_HEADROOM))`. Rests on the spec's decision D21 (92). -/
def Obligations.DrainCountFormula : Prop :=
  ∀ (s : State) (space0 : Nat), s.env.sink.spaces = (List.range (s.orb.length + 1)).map (fun j => space0 - j) →
    ∃ t, exec .drain s = .next t ∧ t.orb = s.orb.drop (min s.orb.length (space0 - s.par.sinkHeadroom))

/-! ### SAMPLES as a whole -/

/-- SAMPLES is refused while `rx_level` is 0 and then changes nothing but the result, whatever the block
(41_signal_path R141). Rests on the spec's decision D15 (92). -/
def Obligations.SamplesRefusedWithoutLevel : Prop :=
  ∀ (s : State) (c : Bool) (raws : List Sample), s.cfg.rxLevel = 0 →
    exec (.samples c raws) s = .next { s with res := ⟨0, true, 2⟩, calls := [], halt := none }

/-- `SAMPLES n=0` changes no state at all except the result (41_signal_path R143).
Rests on the spec's decision D6 (92). -/
def Obligations.EmptyBlockChangesNothing : Prop :=
  ∀ (s : State) (c : Bool), s.cfg.rxLevel ≠ 0 →
    exec (.samples c []) s = .next { s with res := ⟨0, false, 0⟩, calls := [], halt := none }

/-- SAMPLES completes for every block, every answer of the environment and every configuration with a nonzero `rx_level`
(41_signal_path R140, 60_exceptions R250), with what it never writes: configuration, durations and offsets, parameters, the
sink; the elapsed counter of a timer ends at its clocked value or, if it was started in the block, at its offset
(40_timers R122, R127); samples in the output ring stay in front; the input ring keeps its length; the sticky flag
changes only to 1 and only with the ring full. `drop_new` is the policy of
00_scope R6; the premise on the input ring holds in every state that meets the invariant.
Rests on the spec's decisions D6, D18, D19 (92). -/
def Obligations.SamplesCompletes : Prop :=
  ∀ (s : State) (c : Bool) (raws : List Sample), s.cfg.rxLevel ≠ 0 → s.par.orbOverflowPolicy = .dropNew →
    s.irb.length < Config.irbCap → ∃ t, exec (.samples c raws) s = .next t ∧
      t.res = ⟨0, false, 0⟩ ∧ t.halt = none ∧ t.cfg = s.cfg ∧ t.par = s.par ∧ t.payload = s.payload ∧ t.cmd = s.cmd ∧
      t.env.sink = s.env.sink ∧ t.env.blankParams = s.env.blankParams ∧
      (∀ k, (t.timer k).dur = (s.timer k).dur ∧ (t.timer k).off = (s.timer k).off ∧
        ((t.timer k).el.toNat = (if (s.timer k).run then min ((s.timer k).el.toNat + raws.length) (2 ^ 32 - 1)
            else (s.timer k).el.toNat) ∨
          (t.timer k).el = (s.timer k).off)) ∧
      s.orb <+: t.orb ∧ (s.orb.length ≤ Config.orbCap → t.orb.length ≤ Config.orbCap) ∧
      t.irb.length = s.irb.length ∧ (s.orbOvf = true → t.orbOvf = true) ∧
      (t.orbOvf = s.orbOvf ∨ Config.orbCap ≤ t.orb.length)

/-! ### Who writes what (whole-machine rules) -/

/-- `state` is written by SAMPLES and RESET only (10_state R21), the lines by SAMPLES only (R27), `mode` by SAMPLES and
MODE_WR only (R29), the input ring and the filter state by SAMPLES only (R35, 20_memory R60), the output ring by SAMPLES,
DRAIN and RESET only (20_memory R60). Rests on the spec's decisions D4, D23 (92). -/
def Obligations.SequencingWriters : Prop :=
  ∀ (i : Instr) (s t : State), exec i s = .next t → (∀ c raws, i ≠ .samples c raws) →
    t.decodeEn = s.decodeEn ∧ t.adcDetEn = s.adcDetEn ∧ t.irb = s.irb ∧ t.filt = s.filt ∧
    (i ≠ .reset → t.state = s.state) ∧ ((∀ m, i ≠ .modeWr m) → t.mode = s.mode) ∧
    (i ≠ .reset → i ≠ .drain → t.orb = s.orb) ∧ (i ≠ .reset → t.orbOvf = s.orbOvf)

/-- Configuration is "immutable-until-reconfigured" (10_state R31, R25, R30): each register and each timer duration is
written by the SET operation named for it and by no other operation; parameters and waiting words by none.
Rests on the spec's decisions D2, D6 (92). -/
def Obligations.ConfigurationImmutable : Prop :=
  ∀ (i : Instr) (s t : State), exec i s = .next t →
    t.par = s.par ∧ t.payload = s.payload ∧ t.cmd = s.cmd ∧
    ((∀ b e l h r, i ≠ .setCallsign b e l h r) → t.cfg.atStart = s.cfg.atStart ∧ t.cfg.atEnd = s.cfg.atEnd ∧
      t.cfg.atLatch = s.cfg.atLatch ∧ ∀ k, k = .hold ∨ k = .id →
        (t.timer k).dur = (s.timer k).dur ∧ (t.timer k).off = (s.timer k).off) ∧
    ((∀ m d, i ≠ .setAck m d) → ∀ k, k = .ackDly ∨ k = .minAck →
        (t.timer k).dur = (s.timer k).dur ∧ (t.timer k).off = (s.timer k).off) ∧
    ((∀ c v b x o k h, i ≠ .setMisc c v b x o k h) → t.cfg.useCos = s.cfg.useCos ∧ t.cfg.cosInvert = s.cfg.cosInvert ∧
      t.cfg.rfAudioBoost = s.cfg.rfAudioBoost ∧ t.cfg.rxLevel = s.cfg.rxLevel ∧
      ∀ k, k = .timeout ∨ k = .ker ∨ k = .hang →
        (t.timer k).dur = (s.timer k).dur ∧ (t.timer k).off = (s.timer k).off)

/-- Every operation writes all three result registers when it ends (10_state R33): `refused = 0` and a status for a SET
operation, all zero for RESET, DRAIN, MODE_WR and a performed SAMPLES, the refusal for a SAMPLES without a level.
Rests on the spec's decision D2 (92). -/
def Obligations.ResultRegistersWritten : Prop :=
  ∀ (i : Instr) (s t : State), exec i s = .next t →
    match i with
    | .setCallsign _ _ _ _ _ => t.res = ⟨t.res.status, false, 0⟩
    | .setAck _ _ => t.res = ⟨t.res.status, false, 0⟩
    | .setMisc _ _ _ _ _ _ _ => t.res = ⟨t.res.status, false, 0⟩
    | .reset => t.res = ⟨0, false, 0⟩
    | .drain => t.res = ⟨0, false, 0⟩
    | .modeWr _ => t.res = ⟨0, false, 0⟩
    | .samples _ _ => t.res = if s.cfg.rxLevel = 0 then ⟨0, true, 2⟩ else ⟨0, false, 0⟩

/-! ### Timers -/

/-- Start (40_timers R122): `run <- 1; el <- off` if `dur > 0`, else nothing is written; no other timer and no other register
changes. Rests on the spec's decisions D7, D11 (92). -/
def Obligations.StartIsGuarded : Prop :=
  ∀ (s : State) (k : TimerId), timerStart k s =
    { s with tmr := (timerStart k s).tmr } ∧
    (∀ j, j ≠ k → (timerStart k s).timer j = s.timer j) ∧
    (timerStart k s).timer k = (s.timer k).start ∧
    ((s.timer k).dur = 0 → (s.timer k).start = s.timer k) ∧
    ((s.timer k).dur ≠ 0 → (s.timer k).start = { s.timer k with run := true, el := (s.timer k).off })

/-- ClockAll (40_timers R124, R127): all seven timers take the same tick count; a running one advances, saturating at
`2^32 - 1`, a stopped one does not; nothing else is written. Rests on the spec's decision D6 (92). -/
def Obligations.ClockAllAdvancesRunningTimers : Prop :=
  ∀ (s : State) (n : Nat) (k : TimerId),
    (clockAll n s).timer k = (s.timer k).clock n ∧
    (s.timer k).clock n = { s.timer k with el := ((s.timer k).clock n).el } ∧
    ((s.timer k).clock n).el.toNat =
      (if (s.timer k).run then min ((s.timer k).el.toNat + n) (2 ^ 32 - 1) else (s.timer k).el.toNat) ∧
    clockAll n s = { s with tmr := (clockAll n s).tmr }

/-- `Expired` is "elapsed >= configured duration", whether or not the timer runs, and reads nothing else (40_timers R125);
`Running` is the run bit (R126); Stop writes only that bit (R123); and "a timer that has expired stays expired until it is
started again" (R124, R125): clocking by any tick counts, and stopping, keep `Expired`.
Rests on the spec's decisions D6, D8, D10 (92). -/
def Obligations.ExpiredStaysExpired : Prop :=
  ∀ (s : State) (k : TimerId) (ns : List Nat),
    let t := s.timer k
    (timerExpired k s = true ↔ t.dur.toNat ≤ t.el.toNat) ∧ t.expired = timerExpired k s ∧ timerRunning k s = t.run ∧
    t.stop = { t with run := false } ∧
    (t.expired = true →
      (ns.foldl (fun t n => t.clock n) t).expired = true ∧ (ns.foldl (fun t n => t.clock n) t.stop).expired = true)

/-- StopAll (40_timers R128), for both values of `STOPALL_HOLDOFF`: the run bits of six timers, and that of the holdoff
timer if the parameter is true; nothing else. Rests on the spec's decisions D5, D8 (92). -/
def Obligations.StopAllByParameter : Prop :=
  ∀ (s : State), stopAll s = { s with tmr := (stopAll s).tmr } ∧
    ∀ k, (stopAll s).timer k =
      { s.timer k with run := if k = .hold ∧ s.par.stopAllHoldoff = false then (s.timer k).run else false }

/-! ### One evaluation -/

/-- The column "next state" of 42_state_machine R202 (rules R186 to R200). Rests on the spec's decision D31 (92). -/
def Obligations.EvaluationNextState : Prop :=
  ∀ (s : State) (v : Bool), (eval v s).state = nextCtl s v

/-- The lines (42_state_machine R202, 10_state R27, R28): written together, and only where the table says.
Rests on the spec's decision D31 (92). -/
def Obligations.EvaluationLines : Prop :=
  ∀ (s : State) (v : Bool),
    (eval v s).decodeEn = (linesWritten s.state v).getD s.decodeEn ∧
    (eval v s).adcDetEn = (linesWritten s.state v).getD s.adcDetEn

/-- The mode (42_state_machine R188, R201): FM on leaving LISTENING; IDLE when the evaluation ends in LISTENING with mode FM
and neither identification nor acknowledgement wanted; else as it was.
Rests on the spec's decisions D4, D31 (92). -/
def Obligations.EvaluationMode : Prop :=
  ∀ (s : State) (v : Bool), (eval v s).mode =
    if s.state = .listening ∧ v = true then modeFm else if demotes s v (eval v s) then modeIdle else s.mode

/-- Every timer after an evaluation: its entry in 42_state_machine R202, then StopAll if the evaluation demotes the mode
(R201, 40_timers R128). Rests on the spec's decisions D5, D7, D8, D28, D31, D32 (92). -/
def Obligations.EvaluationTimers : Prop :=
  ∀ (s : State) (v : Bool) (k : TimerId), (eval v s).timer k =
    if demotes s v (eval v s) && !(k == .hold && !s.par.stopAllHoldoff) then (rowTimer s v k).stop else rowTimer s v k

/-- The starts and stops of generators in one evaluation are those of 42_state_machine R202, in order, and the generators
are left as those commands leave them (R182, R185, R192, R195, R196, R200).
Rests on the spec's decisions D28, D31, D32 (92). -/
def Obligations.EvaluationCommands : Prop :=
  ∀ (s : State) (v : Bool), ∃ new : List Call, (eval v s).calls = new ++ s.calls ∧
    new.reverse.filter (·.isCommand) = rowCommands s v ∧
    ∀ k, (eval v s).gen k = commanded k (rowCommands s v) (s.gen k)

/-- The frame of an evaluation (42_state_machine R180, 10_state R39) and the inserted silence (R184, R188, 20_memory R65): on
leaving LISTENING 1200 zeros, as many as there is room for; else the output ring is untouched. With room for all of them (up
to and including 1200 queued) no flag is set and nothing stops; with more queued, what the overflow policy says.
Rests on the spec's decisions D18, D19, D20 (92). -/
def Obligations.EvaluationFrameAndSilence : Prop :=
  ∀ (s : State) (v : Bool),
    let leaves := s.state = .listening ∧ v = true
    let spills := leaves ∧ 1200 < s.orb.length
    eval v s = { s with
      state := (eval v s).state, tmr := (eval v s).tmr, decodeEn := (eval v s).decodeEn, adcDetEn := (eval v s).adcDetEn,
      mode := (eval v s).mode, orb := (eval v s).orb, orbOvf := (eval v s).orbOvf, calls := (eval v s).calls,
      halt := (eval v s).halt,
      env := { s.env with
        idgen := (eval v s).env.idgen, ackgen := (eval v s).env.ackgen, totone := (eval v s).env.totone } } ∧
    (leaves → (eval v s).orb = s.orb ++ List.replicate (min 1200 (2400 - s.orb.length)) 0) ∧
    (¬ leaves → (eval v s).orb = s.orb) ∧
    (¬ spills → (eval v s).orbOvf = s.orbOvf ∧ (eval v s).halt = s.halt) ∧
    (spills → s.par.orbOverflowPolicy = .dropNew → (eval v s).orbOvf = true ∧ (eval v s).halt = s.halt) ∧
    (spills → s.par.orbOverflowPolicy = .fault →
      (eval v s).orbOvf = s.orbOvf ∧ (eval v s).halt = some (s.halt.getD .orbOverflow))

/-- SendId (42_state_machine R182): with the holdoff timer running, identification is started only once it has expired, and
the holdoff is then restarted; with it not running, identification is started unconditionally. Nothing else is written or
called. -/
def Obligations.SendIdRespectsHoldoff : Prop :=
  ∀ s : State,
    (timerRunning .hold s = false → sendId s = genStart .idgen s) ∧
    (timerRunning .hold s = true → timerExpired .hold s = false → sendId s = s) ∧
    (timerRunning .hold s = true → timerExpired .hold s = true →
      sendId s = { s with
        tmr := (sendId s).tmr, env := { s.env with idgen := (s.gen .idgen).after .idgen .start },
        calls := .genStart .idgen :: s.calls } ∧
      ∀ k, (sendId s).timer k = if k = .hold then (s.timer k).start else s.timer k)

/-- KERCHUNK with the signal lost (42_state_machine R191): LISTENING at once, lines off, four timers stopped; `mode` stays FM
only while an identification or an acknowledgement is still wanted; nothing already queued or started is undone. -/
def Obligations.KerchunkRevertsOnLostSignal : Prop :=
  ∀ s : State, s.state = .kerchunk →
    let wanted := (s.gen .idgen).wanted || (s.gen .ackgen).wanted
    eval false s = { s with
      state := .listening, decodeEn := false, adcDetEn := false, tmr := (eval false s).tmr, calls := (eval false s).calls,
      mode := if s.mode = modeFm ∧ wanted = false then modeIdle else s.mode } ∧
    (∀ k, k = .ker ∨ k = .timeout ∨ k = .minAck ∨ k = .id →
      (eval false s).timer k = (s.timer k).stop) ∧
    (s.mode ≠ modeFm ∨ wanted = true → (eval false s).timer .hold = s.timer .hold ∧
      (eval false s).timer .ackDly = s.timer .ackDly ∧ (eval false s).timer .hang = s.timer .hang) ∧
    (eval false s).calls.filter (·.isCommand) = s.calls.filter (·.isCommand)

/-- A new transmission preempts the hang (42_state_machine R196): lines on, RELAYING, `ackgen.stop()`, the transmit-timeout
and the minimum-ack timer restarted; no other timer, no silence; then the periodic identification check. The calls are
compared apart from the trace events of `log`. -/
def Obligations.HangResumesRelaying : Prop :=
  ∀ s : State, s.state = .hang → ∃ t, eval true s = idRepeatCheck t ∧
    t = { s with
      decodeEn := true, adcDetEn := true, state := .relaying, tmr := t.tmr,
      env := { s.env with ackgen := (s.gen .ackgen).afterStop .ackgen }, calls := t.calls } ∧
    t.calls.filter (!·.isTrace) = .genStop .ackgen :: s.calls.filter (!·.isTrace) ∧
    ∀ k, t.timer k = if k = .timeout ∨ k = .minAck then (s.timer k).start else s.timer k

/-- The end of a transmission (42_state_machine R195, R200): before the ack delay has expired, only the periodic
identification check; then HANG. After RELAYING the acknowledgement is started and the minimum-ack timer stopped if that
timer is not running or has expired, and neither otherwise; after TIMEOUT the timeout tone is stopped and the
acknowledgement started whatever the minimum-ack timer says. Ack-delay and transmit-timeout timers stop, the hang timer
starts. That `log.transition` stands before the other calls is the model's choice (log entry 13). -/
def Obligations.WaitStatesEndInHang : Prop :=
  ∀ s : State, s.state = .relayingWait ∨ s.state = .timeoutWait →
    (timerExpired .ackDly s = false → eval false s = idRepeatCheck s) ∧
    (timerExpired .ackDly s = true → ∃ t, eval false s = idRepeatCheck t ∧
      let earned := timerRunning .minAck s = false ∨ timerExpired .minAck s = true
      let started := { s.env with ackgen := (s.gen .ackgen).after .ackgen .start }
      t = { s with
        state := .hang, tmr := t.tmr,
        env := if s.state = .timeoutWait then { started with totone := (s.gen .totone).afterStop .totone }
          else if earned then started else s.env,
        calls := (if s.state = .timeoutWait then [.genStart .ackgen, .genStop .totone]
          else if earned then [.genStart .ackgen] else []) ++ .logTransition s.state .hang :: s.calls } ∧
      t.timer .ackDly = (s.timer .ackDly).stop ∧ t.timer .timeout = (s.timer .timeout).stop ∧
      t.timer .minAck = (if s.state = .timeoutWait ∨ earned then (s.timer .minAck).stop else s.timer .minAck) ∧
      t.timer .hang = (s.timer .hang).start ∧
      t.timer .id = s.timer .id ∧ t.timer .hold = s.timer .hold ∧ t.timer .ker = s.timer .ker)

/-- The post-transition rule (42_state_machine R201), applied after every evaluation: in LISTENING with mode FM and neither
generator wanted, the mode becomes IDLE and StopAll runs; else nothing is written. A mode other than FM is left alone; the
timeout-tone generator is not consulted. -/
def Obligations.IdleWhenNothingIsWanted : Prop :=
  ∀ (s : State) (v : Bool), eval v s = postTransition (handler v s) ∧
    let idle := s.state = .listening ∧ s.mode = modeFm ∧ (s.gen .idgen).wanted = false ∧ (s.gen .ackgen).wanted = false
    (idle → postTransition s = { s with mode := modeIdle, tmr := (stopAll s).tmr, calls := (postTransition s).calls }) ∧
    (¬ idle → postTransition s = { s with calls := (postTransition s).calls }) ∧
    ∃ asked : List Call, (postTransition s).calls = asked ++ s.calls ∧
      ∀ e ∈ asked, e = .genIsWanted .idgen (s.gen .idgen).wanted ∨ e = .genIsWanted .ackgen (s.gen .ackgen).wanted

/-- Evaluations in a row, one for each validity bit. -/
def evalEach (vs : List Bool) (s : State) : State := vs.foldl (fun s v => eval v s) s

/-- Periodic identification (42_state_machine R185, §8 Scenario 5): "exactly one re-send of identification per expiration ...
regardless of how many samples are processed in the triggering block": in each of the five states that check the repeat
timer (R192 to R200), whatever validity bits the evaluations get, the first one starts the identification and none after it
does, until the state machine returns to LISTENING (where R197 may identify at the end). Further premises: a repeat timer
as SET_CALLSIGN configures it (offset 0, duration not 0), running and expired, and the holdoff timer not running.
Rests on the spec's decisions D7, D32 (92). -/
def Obligations.PeriodicIdentificationOncePerExpiry : Prop :=
  ∀ (s : State) (v : Bool) (vs : List Bool), s.state ≠ .kerchunk →
    (∀ n, (evalEach ((v :: vs).take n) s).state ≠ .listening) →
    (s.timer .id).run = true → (s.timer .id).expired = true → (s.timer .id).dur ≠ 0 → (s.timer .id).off = 0 →
    (s.timer .hold).run = false →
    (evalEach (v :: vs) s).calls.count (.genStart .idgen) = s.calls.count (.genStart .idgen) + 1 ∧
    ((evalEach (v :: vs) s).timer .id).run = true ∧ ((evalEach (v :: vs) s).timer .id).el = 0

/-! ### The signal path -/

/-- `sat16` is the nearest value of the sample range (00_scope R8). Rests on the spec's decision D14 (92). -/
def Obligations.SaturationClamps : Prop :=
  ∀ v : Int, (sat16 v).toInt = max (-32768) (min 32767 v)

/-- Level scaling (41_signal_path R144), for every pre-scale: the shifted sample divided by `rx_level`, rounded toward zero,
clamped to the sample range. Without a pre-scale the sample never grows, so the `sat16` never clips.
Rests on the spec's decision D15 (92). -/
def Obligations.ScalingTruncatesTowardZero : Prop :=
  ∀ (p : Params) (g : Cfg) (raw : Sample), g.rxLevel ≠ 0 →
    let quotient := (raw.toInt * 2 ^ p.rxPrescaleShift.val).tdiv g.rxLevel.toNat
    (scale p g raw).toInt = max (-32768) (min 32767 quotient) ∧
    (p.rxPrescaleShift = 0 → (scale p g raw).toInt = raw.toInt.tdiv g.rxLevel.toNat ∧
      (scale p g raw).toInt.natAbs ≤ raw.toInt.natAbs)

/-- The five cases of 41_signal_path R147 for a sample with decoder answer `a`, delayed value `x` and effective carrier `c`:
`v = valid && c` (R148), `mode` read afresh (R149, R150). Rests on the spec's decisions D9, D13 (92). -/
def Obligations.EvaluationPolicy : Prop :=
  ∀ (c last : Bool) (a : RxAnswer) (x : Sample) (s : State),
    let e := eval (a.valid && c) s
    (a.ready = false → s.mode ≠ modeFm → policyStep c last a x s = (.continue, s)) ∧
    (a.ready = true → s.mode ≠ modeFm →
      policyStep c last a x s = (.continue, if e.mode = modeFm then audioPath x e else e)) ∧
    (a.ready = true → s.mode = modeFm →
      policyStep c last a x s = if e.mode = modeFm then (.continue, audioPath x e) else (.break, e)) ∧
    (a.ready = false → s.mode = modeFm → last = true → policyStep c last a x s = (.continue, audioPath x e)) ∧
    (a.ready = false → s.mode = modeFm → last = false → policyStep c last a x s = (.continue, audioPath x s))

/-- The calls of one sample on its way to the output, with their answers, in order (41_signal_path R151 to R158, R160): the
content is gated by `state`; identification and acknowledgement suppress each other and the timeout tone, each test asked
afresh (R155); the three stages in order, each with its state advanced once, and the blanker's only when it is called
(10_state R35); the encoder after them; the result is put only while the mode is FM, and with the output ring full the
overflow policy decides (20_memory R65). Rests on the spec's decisions D16, D17, D18, D19, D37 (92). -/
def Obligations.AudioPathTrace : Prop :=
  ∀ (x : Sample) (s : State), ∃ (b1 b2 b3 b4 : Bool) (a1 a2 a3 : Sample),
    let open_ := s.state = .relaying ∨ s.state = .kerchunk
    let b := blankFn s.env.blankParams s.filt.blank x
    let y0 : Sample := if open_ then sat16 (b.2.toInt * s.cfg.rfAudioBoost.toNat) else 0
    let y1 := if b1 then y0 else sat16 (y0.toInt + a1.toInt)
    let y2 := if b2 then y1 else sat16 (y1.toInt + a2.toInt)
    let y3 := if b3 || b4 then y2 else sat16 (y2.toInt + a3.toInt)
    let f1 := lpfFn 0 s.filt.lpf1 y3
    let f2 := lpfFn 1 s.filt.lpf2 f1.2
    let f3 := lpfFn 2 s.filt.lpf3 f2.2
    let tone := s.env.tx.sample
    let z := sat16 (f3.2.toInt + tone.toInt)
    let spills := s.mode = modeFm ∧ 2400 ≤ s.orb.length
    let t := audioPath x s
    t.calls =
      ((if open_ then [Call.blankProcess x b.2] else []) ++
        [Call.genIsRunning .idgen b1] ++ (if b1 then [] else [Call.genPull .ackgen .high a1]) ++
        [Call.genIsRunning .ackgen b2] ++
        (if b2 then [] else [Call.genPull .idgen (if s.state = .listening then .high else .low) a2]) ++
        [Call.genIsRunning .idgen b3] ++
        (if b3 then [] else Call.genIsRunning .ackgen b4 :: if b4 then [] else [Call.genPull .totone .audio a3]) ++
        [Call.lpfFilter 0 y3 f1.2, .lpfFilter 1 f1.2 f2.2, .lpfFilter 2 f2.2 f3.2, .txGetAudio tone]).reverse ++ s.calls ∧
    b1 = (s.gen .idgen).running ∧
    (b1 = true → b2 = (s.gen .ackgen).running) ∧
    (b2 = true → b3 = b1) ∧
    ((s.gen .ackgen).running = false → a1 = 0) ∧ (b1 = false → a2 = 0) ∧ ((s.gen .totone).running = false → a3 = 0) ∧
    t.filt = ⟨f1.1, f2.1, f3.1, if open_ then b.1 else s.filt.blank⟩ ∧
    t.orb = s.orb ++ (if s.mode = modeFm ∧ s.orb.length < 2400 then [z] else []) ∧
    (¬ spills → t.orbOvf = s.orbOvf ∧ t.halt = s.halt) ∧
    (spills → s.par.orbOverflowPolicy = .dropNew → t.orbOvf = true ∧ t.halt = s.halt) ∧
    (spills → s.par.orbOverflowPolicy = .fault → t.orbOvf = s.orbOvf ∧ t.halt = some (s.halt.getD .orbOverflow))

/-- The relayed sample, end to end (41_signal_path R142, R144, R146, R147, R151, R156 to R158): a block of one sample in
RELAYING with a valid signal (with COS squelch `cos xor cos_invert`), no timeout or identification due and no generator
running. It is scaled; without COS squelch it enters the delay line and the oldest sample of that line goes on in its place;
the sample that goes on is blanked, boosted, filtered in three stages whose states advance, the CTCSS tone is added, and the
result is put. With the output ring full the overflow policy decides (20_memory R65).
Rests on the spec's decisions D9, D13, D15, D16, D18, D19, D33, D37 (92). -/
def Obligations.RelayedSampleReachesOutput : Prop :=
  ∀ (s : State) (cos : Bool) (raw : Sample) (a : RxAnswer) (more : List RxAnswer), s.state = .relaying → s.mode = modeFm →
    s.cfg.rxLevel ≠ 0 → (s.cfg.useCos = true → xor cos s.cfg.cosInvert = true) →
    (s.cfg.useCos = false → s.irb.length < Config.irbCap) →
    s.env.rx.replies = a :: more → a.valid = true → (clockAll 1 s).due .timeout = false → (clockAll 1 s).due .id = false →
    (∀ k, (s.gen k).running = false) →
    let scaled := scale s.par s.cfg raw
    let x := if s.cfg.useCos then scaled else (s.irb ++ [scaled]).headD 0
    let b := blankFn s.env.blankParams s.filt.blank x
    let f1 := lpfFn 0 s.filt.lpf1 (sat16 (b.2.toInt * s.cfg.rfAudioBoost.toNat))
    let f2 := lpfFn 1 s.filt.lpf2 f1.2
    let f3 := lpfFn 2 s.filt.lpf3 f2.2
    let full := 2400 ≤ s.orb.length
    (¬ (full ∧ s.par.orbOverflowPolicy = .fault) → ∃ t, exec (.samples cos [raw]) s = .next t ∧
      t.state = .relaying ∧ t.mode = modeFm ∧
      t.irb = (if s.cfg.useCos then s.irb else (s.irb ++ [scaled]).tail) ∧ t.filt = ⟨f1.1, f2.1, f3.1, b.1⟩ ∧
      (¬ full → t.orb = s.orb ++ [sat16 (f3.2.toInt + s.env.tx.sample.toInt)] ∧ t.orbOvf = s.orbOvf) ∧
      (full → t.orb = s.orb ∧ t.orbOvf = true)) ∧
    (full ∧ s.par.orbOverflowPolicy = .fault → exec (.samples cos [raw]) s = .fault .orbOverflow)

/-- While the mode is FM and the decoder answers not-ready throughout, the state machine is evaluated exactly once per block,
on the last sample, "regardless of block length" (41_signal_path R149 (c)): `state`, the lines, the starts and stops of
generators and, outside LISTENING, mode and timers end as one evaluation of the clocked block leaves them. (In LISTENING mode
and timers depend on whether a generator is still wanted after the block's pulls.)
Rests on the spec's decisions D9, D13, D28, D31, D32, D33 (92). -/
def Obligations.OneEvaluationPerNotReadyBlock : Prop :=
  ∀ (s t : State) (cos : Bool) (raws : List Sample) (front more : List RxAnswer) (last : RxAnswer),
    exec (.samples cos raws) s = .next t → s.cfg.rxLevel ≠ 0 → s.mode = modeFm →
    s.env.rx.replies = front ++ last :: more → raws.length = front.length + 1 →
    (∀ a ∈ front ++ [last], a.ready = false) →
    let v := last.valid && (if s.cfg.useCos then xor cos s.cfg.cosInvert else true)
    let entry := clockAll raws.length s
    t.state = (eval v entry).state ∧ t.decodeEn = (eval v entry).decodeEn ∧ t.adcDetEn = (eval v entry).adcDetEn ∧
    t.calls.reverse.filter (·.isCommand) = rowCommands entry v ∧
    (t.state ≠ .listening → t.mode = modeFm ∧ ∀ k, t.timer k = rowTimer entry v k)

/-- Without carrier an idle block transmits nothing (41_signal_path R142, R148, R149 (b), 42_state_machine R189, R201): in
LISTENING with the mode not FM and the COS input, inverted if `cos_invert` is 1, inactive, no sequence of decoder answers
makes SAMPLES change anything but the timers' elapsed counters, the decoder and the result. Rests on the spec's decisions
D9, D13, D33 (92). Rests on the spec's decisions D9, D13, D33 (92). -/
def Obligations.NoCarrierNoOutput : Prop :=
  ∀ (s : State) (cos : Bool) (raws : List Sample), s.cfg.rxLevel ≠ 0 → s.state = .listening → s.mode ≠ modeFm →
    (if s.cfg.useCos then xor cos s.cfg.cosInvert else true) = false →
    ∃ t, exec (.samples cos raws) s = .next t ∧
      t = { s with
        tmr := (clockAll raws.length s).tmr, env := { s.env with rx := t.env.rx }, res := ⟨0, false, 0⟩, calls := t.calls,
        halt := none }

/-- "relayed audio never leaks outside an active relay" (41_signal_path R151, R198): in TIMEOUT with the carrier kept valid,
the output of a block does not depend on its samples. The environment answers both runs alike (log entry 3).
Rests on the spec's decisions D9, D13, D33 (92). -/
def Obligations.TimeoutRelaysNothing : Prop :=
  ∀ (s t t' : State) (cos : Bool) (raws raws' : List Sample) (answers more : List RxAnswer), s.state = .timeout →
    s.mode = modeFm → (s.cfg.useCos = true → xor cos s.cfg.cosInvert = true) →
    s.env.rx.replies = answers ++ more → answers.length = raws.length → raws'.length = raws.length →
    (∀ a ∈ answers, a.valid = true) →
    exec (.samples cos raws) s = .next t → exec (.samples cos raws') s = .next t' →
    t.orb = t'.orb ∧ t.filt = t'.filt ∧ t.tmr = t'.tmr ∧ t.state = t'.state ∧
      (s.cfg.rxLevel ≠ 0 → t.state = .timeout ∧ t.mode = modeFm)

/-- Is this call one of the decoder's `process`, and with which sample? -/
def processed (e : Call) : Option Sample :=
  match e with
  | .rxProcess x _ => some x
  | _ => none

/-- Is this call one of the blanker's `process`, and with which sample? -/
def blanked (e : Call) : Option Sample :=
  match e with
  | .blankProcess x _ => some x
  | _ => none

/-- With effective carrier `c` and decoder answer `a`, case P3 applies and its evaluation leaves the mode not FM
(41_signal_path R147). -/
def leavesFm (c : Bool) (a : RxAnswer) (s : State) : Prop :=
  a.ready = true ∧ s.mode = modeFm ∧ (eval (a.valid && c) s).mode ≠ modeFm

/-- The loop and its delay line (41_signal_path R142, R144 to R149, 20_memory R61): of a block of `n` samples the loop
reaches the first `m`, and `m` is `n` unless the evaluation of sample `m-1` was a case P3 that left the mode not FM, which
ends the loop; no earlier one was. The decoder gets exactly those `m`, scaled, in order; without COS squelch the same
samples enter the ring at its tail and as many leave at its head, and sample `j` goes on as the `j`-th of those that left;
with COS squelch the ring is not touched and sample `j` goes on as it is. Each sample takes the state that the one before
left (`at_`), the first the clocked block. What reaches the blanker is some of the samples that left the line, in order.
Rests on the spec's decisions D9, D13, D15, D18, D33 (92). -/
def Obligations.DelayLineIsFifo : Prop :=
  ∀ (s t : State) (cos : Bool) (raws : List Sample), exec (.samples cos raws) s = .next t → s.cfg.rxLevel ≠ 0 →
    s.irb.length < Config.irbCap → ∃ (m : Nat) (at_ : Nat → State), m ≤ raws.length ∧
      let c := if s.cfg.useCos then xor cos s.cfg.cosInvert else true
      let decoded := (raws.take m).map (scale s.par s.cfg)
      let line := if s.cfg.useCos then decoded else s.irb ++ decoded
      t.calls.reverse.filterMap processed = decoded ∧
      t.irb = (if s.cfg.useCos then s.irb else line.drop m) ∧
      List.Sublist (t.calls.reverse.filterMap blanked) (line.take m) ∧
      at_ 0 = clockAll raws.length { s with calls := [], halt := none } ∧ t = { at_ m with res := ⟨0, false, 0⟩ } ∧
      (m = 0 → raws = []) ∧
      ∀ j < m,
        let answer := rxProcess (decoded.getD j 0) (at_ j)
        let delayed := { answer.2 with
          irb := if s.cfg.useCos then s.irb else (s.irb ++ decoded.take (j + 1)).drop (j + 1) }
        at_ (j + 1) = (policyStep c (decide (j + 1 = raws.length)) answer.1 (line.getD j 0) delayed).2 ∧
        (leavesFm c answer.1 delayed → j + 1 = m) ∧
        (j + 1 = m → m = raws.length ∨ leavesFm c answer.1 delayed)

/-- "The block never writes `OTHER`" (10_state R29): SAMPLES leaves `mode` as it was, FM or IDLE.
Rests on the spec's decision D4 (92). -/
def Obligations.ModeNeverOther : Prop :=
  ∀ (s t : State) (cos : Bool) (raws : List Sample), exec (.samples cos raws) s = .next t →
    t.mode = s.mode ∨ t.mode = modeFm ∨ t.mode = modeIdle

/-- Overflow of the inserted silence with `drop_new` (20_memory R65, 95_test_vectors O1): keying up into a nearly full ring
keeps the queued audio in order, fills the ring with silence, loses the rest and sets the sticky flag; the state machine is
not disturbed. Rests on the spec's decisions D18, D19, D20 (92). -/
def Obligations.OverflowDropsNewSamples : Prop :=
  ∀ (s : State), s.state = .listening → s.par.orbOverflowPolicy = .dropNew → s.orb.length ≤ 2400 → 1200 < s.orb.length →
    (eval true s).orb = s.orb ++ List.replicate (2400 - s.orb.length) 0 ∧ (eval true s).orbOvf = true ∧
    (eval true s).halt = s.halt ∧ (eval true s).mode = modeFm

/-- Overflow of the inserted silence with `fault` (20_memory R65, 60_exceptions R252, 95_test_vectors O1): a block of one
sample that keys up with more than 1200 samples queued ends in the fault of the first Put that finds the ring full. An
ordinary sample that does is in RelayedSampleReachesOutput.
Rests on the spec's decisions D18, D19, D20, D33 (92). -/
def Obligations.OverflowFaultStopsSamples : Prop :=
  ∀ (s : State) (cos : Bool) (raw : Sample) (a : RxAnswer) (more : List RxAnswer), s.state = .listening →
    s.par.orbOverflowPolicy = .fault → s.orb.length ≤ 2400 → 1200 < s.orb.length → s.cfg.rxLevel ≠ 0 →
    s.irb.length < Config.irbCap → s.env.rx.replies = a :: more → a = ⟨true, true⟩ →
    (s.cfg.useCos = true → xor cos s.cfg.cosInvert = true) →
    exec (.samples cos [raw]) s = .fault .orbOverflow

/-- The only stop of SAMPLES (20_memory R65, 93 I7): with the input ring not full, every block either completes or ends in the
output-ring fault, and that only under the policy `fault`. Rests on the spec's decision D19 (92). -/
def Obligations.SamplesStopsOnlyOnOverflow : Prop :=
  ∀ (s : State) (c : Bool) (raws : List Sample), s.irb.length < Config.irbCap →
    (∃ t, exec (.samples c raws) s = .next t ∧ t.halt = none) ∨
    (exec (.samples c raws) s = .fault .orbOverflow ∧ s.par.orbOverflowPolicy = .fault)

/-! ### Collaborators -/

/-- A1, A2 and A5 of 60_exceptions R266: after `stop()` a generator is not running at once, a pull on it returns silence, and
a second `stop()` leaves it as it is. Rests on the spec's decision D29 (92). -/
def Obligations.StoppedGeneratorIsSilent : Prop :=
  ∀ (s : State) (k : GenId) (p : Pull),
    ((genStop k s).gen k).running = false ∧ (genPull k p (genStop k s)).1 = 0 ∧
    ∀ j, (genStop k (genStop k s)).gen j = (genStop k s).gen j

/-! ### Invariants -/

/-- The power-on state meets the invariants (10_state R40, R41). Rests on the spec's decision D22 (92). -/
def Obligations.InvariantsAtPowerOn : Prop :=
  State.reset.Inv ∧ State.reset.LinesFollow ∧ State.reset.OffsetsHardwired

/-- The invariants of 10_state R40 are kept by every step from every state that meets them, whatever the host and the
environment do. Rests on the spec's decisions D5, D18, D19 (92). -/
def Obligations.StepKeepsInvariant : Prop :=
  ∀ s t : State, s.Inv → step s = .next t → t.Inv

/-- "No error is ever fatal" (60_exceptions R250): with the policy of 00_scope R6 every state that meets the invariant has a
next state. Rests on the spec's decisions D19, D26 (92). -/
def Obligations.StepNeverStops : Prop :=
  ∀ s : State, s.Inv → s.par.orbOverflowPolicy = .dropNew → ∃ t, step s = .next t ∧ t.par = s.par

/-- The lines follow the sequencing register (42_state_machine R188, R191, R193, R194, R196 to R199), kept by every step.
Rests on the spec's decision D23 (92). -/
def Obligations.StepKeepsLines : Prop :=
  ∀ s t : State, s.LinesFollow → step s = .next t → t.LinesFollow

/-- The offsets stay hardwired (10_state R26), kept by every step. Rests on the spec's decision D11 (92). -/
def Obligations.StepKeepsOffsets : Prop :=
  ∀ s t : State, s.OffsetsHardwired → step s = .next t → t.OffsetsHardwired

/-- The status outputs (10_state R37, 30_encoding R102, R103, R105): the modes are numbered 0 to 2 and the states 0 to 6 in
the order the spec lists them, eight outputs are registers as they stand, `run_out` shows each run bit at its index, and in
every state that meets the invariant `orb_count` is `Count(orb)`. Rests on the spec's decisions D3, D4, D35 (92). -/
def Obligations.OutputsShowRegisters : Prop :=
  (modeIdle = 0 ∧ modeFm = 1 ∧ modeOther = 2) ∧
  (Ctl.code .listening = 0 ∧ Ctl.code .kerchunk = 1 ∧ Ctl.code .relaying = 2 ∧ Ctl.code .relayingWait = 3 ∧
    Ctl.code .timeout = 4 ∧ Ctl.code .timeoutWait = 5 ∧ Ctl.code .hang = 6) ∧
  ∀ s : State,
    (s.outputs.stateOut = s.state.code ∧ s.outputs.modeOut = s.mode ∧ s.outputs.decodeEn = s.decodeEn ∧
      s.outputs.adcDetEn = s.adcDetEn ∧ s.outputs.orbOvf = s.orbOvf ∧ s.outputs.status = s.res.status ∧
      s.outputs.refused = s.res.refused ∧ s.outputs.refuseCode = s.res.refuseCode) ∧
    (s.outputs.runOut.getLsbD 0 = (s.timer .id).run ∧ s.outputs.runOut.getLsbD 1 = (s.timer .ackDly).run ∧
      s.outputs.runOut.getLsbD 2 = (s.timer .minAck).run ∧ s.outputs.runOut.getLsbD 3 = (s.timer .timeout).run ∧
      s.outputs.runOut.getLsbD 4 = (s.timer .hold).run ∧ s.outputs.runOut.getLsbD 5 = (s.timer .hang).run ∧
      s.outputs.runOut.getLsbD 6 = (s.timer .ker).run) ∧
    (s.Inv → s.outputs.orbCount.toNat = s.orb.length)
end

