-- ==== Sys2Proof/Laws/Encoding.lean ====
section
/-! SUPPORT. The encoder's word 0 (30_encoding R92 to R97) read back field by field, and the opcode map (R98) as a case
distinction. -/

namespace Sys2Proof

/-! ### The opcode map -/

/-- The opcode map, row by row (30_encoding R98). -/
theorem selectOp_eq (w0 : CmdWord) : selectOp w0 =
    if w0 = 0x10000000 then some .reset else if w0 &&& 0xF1FF0000 = 0x20000000 then some .setCallsign
    else if w0 = 0x30000000 then some .setAck else if w0 &&& 0xF3000000 = 0x40000000 then some .setMisc
    else if w0 &&& 0xF7FFFF00 = 0x50000000 then some .samples else if w0 = 0x60000000 then some .drain
    else if w0 &&& 0xFFFFFFFC = 0x70000000 then some .modeWr else none := by
  have e : ∀ w : CmdWord, w &&& 0xFFFFFFFF = w := fun w => BitVec.and_allOnes
  simp only [selectOp, opcodeTable, List.find?_cons, Row.selects, e]
  repeat' split
  all_goals simp_all

/-- A word that a row selects has the row's opcode in bits 31:28. -/
theorem opcode_of_masked {w m p : CmdWord} (hm : 0xF0000000 &&& m = (0xF0000000 : CmdWord)) (h : w &&& m = p) :
    w &&& 0xF0000000 = p &&& 0xF0000000 := by
  rw [← h, BitVec.and_assoc, BitVec.and_comm m, hm]

/-- A row with another opcode does not select the word. -/
theorem not_masked_of_opcode {w m p q : CmdWord} (hq : w &&& 0xF0000000 = q)
    (hm : 0xF0000000 &&& m = (0xF0000000 : CmdWord)) (hp : p &&& 0xF0000000 ≠ q) : ¬ w &&& m = p :=
  fun h => hp (hq ▸ (opcode_of_masked hm h).symm)

/-- A word that is a row's whole pattern has that pattern's opcode. -/
theorem ne_of_opcode {w p q : CmdWord} (hq : w &&& 0xF0000000 = q) (hp : p &&& 0xF0000000 ≠ q) : w ≠ p :=
  fun h => hp (h ▸ hq)

/-! ### Word 0 of each format, read back -/

theorem head_setCallsign (s e l : Bool) (h r : BitVec 8) :
    let w := encodeHead (.setCallsign s e l h r)
    w &&& 0xF1FF0000 = 0x20000000 ∧ w.getLsbD 27 = s ∧ w.getLsbD 26 = e ∧ w.getLsbD 25 = l ∧ field w 8 8 = h ∧
      field w 0 8 = r := by
  refine ⟨?_, ?_, ?_, ?_, ?_, ?_⟩
  case refine_2 | refine_3 | refine_4 => simp only [encodeHead, BitVec.getLsbD_append]; simp
  all_goals
    apply BitVec.eq_of_getLsbD_eq
    intro i hi
    simp only [encodeHead, field, BitVec.getLsbD_and, BitVec.getLsbD_extractLsb', BitVec.getLsbD_append]
    interval_cases i <;> simp

theorem head_setMisc (c v : Bool) (b : BitVec 8) (x : BitVec 16) (o k h : Ticks) :
    let w := encodeHead (.setMisc c v b x o k h)
    w &&& 0xF3000000 = 0x40000000 ∧ w.getLsbD 27 = c ∧ w.getLsbD 26 = v ∧ field w 16 8 = b ∧ field w 0 16 = x := by
  refine ⟨?_, ?_, ?_, ?_, ?_⟩
  case refine_2 | refine_3 => simp only [encodeHead, BitVec.getLsbD_append]; simp
  all_goals
    apply BitVec.eq_of_getLsbD_eq
    intro i hi
    simp only [encodeHead, field, BitVec.getLsbD_and, BitVec.getLsbD_extractLsb', BitVec.getLsbD_append]
    interval_cases i <;> simp

theorem head_samples (c : Bool) (l : List Sample) :
    let w := encodeHead (.samples c l)
    w &&& 0xF7FFFF00 = 0x50000000 ∧ w.getLsbD 27 = c ∧ field w 0 8 = BitVec.ofNat 8 l.length := by
  refine ⟨?_, ?_, ?_⟩
  case refine_2 => simp only [encodeHead, BitVec.getLsbD_append]; simp
  all_goals
    apply BitVec.eq_of_getLsbD_eq
    intro i hi
    simp only [encodeHead, field, BitVec.getLsbD_and, BitVec.getLsbD_extractLsb', BitVec.getLsbD_append]
    interval_cases i <;> simp

theorem head_modeWr (m : ModeWord) :
    let w := encodeHead (.modeWr m)
    w &&& 0xFFFFFFFC = 0x70000000 ∧ field w 0 2 = m := by
  refine ⟨?_, ?_⟩
  all_goals
    apply BitVec.eq_of_getLsbD_eq
    intro i hi
    simp only [encodeHead, field, BitVec.getLsbD_and, BitVec.getLsbD_extractLsb', BitVec.getLsbD_append]
    interval_cases i <;> simp

/-- The used half of a SAMPLES operand word (30_encoding R96). -/
theorem field_sample (x : Sample) : field (0#16 ++ x) 0 16 = x := by
  apply BitVec.eq_of_getLsbD_eq
  intro i hi
  simp only [field, BitVec.getLsbD_extractLsb', BitVec.getLsbD_append]
  interval_cases i <;> simp

end Sys2Proof
end

