-- ==== Sys2Proof/Laws/State.lean ====
section
/-! SUPPORT. One lemma per field per state update, each true by `rfl`, so that no later proof unfolds a record update; and the
read-after-write lemmas of the timer set and of the generators. -/

namespace Sys2Proof.Machine

variable (s : State)

/-! ### `record` -/

@[simp] theorem record_state (e : Call) : (s.record e).state = s.state := rfl
@[simp] theorem record_tmr (e : Call) : (s.record e).tmr = s.tmr := rfl
@[simp] theorem record_decodeEn (e : Call) : (s.record e).decodeEn = s.decodeEn := rfl
@[simp] theorem record_adcDetEn (e : Call) : (s.record e).adcDetEn = s.adcDetEn := rfl
@[simp] theorem record_mode (e : Call) : (s.record e).mode = s.mode := rfl
@[simp] theorem record_cfg (e : Call) : (s.record e).cfg = s.cfg := rfl
@[simp] theorem record_orbOvf (e : Call) : (s.record e).orbOvf = s.orbOvf := rfl
@[simp] theorem record_res (e : Call) : (s.record e).res = s.res := rfl
@[simp] theorem record_filt (e : Call) : (s.record e).filt = s.filt := rfl
@[simp] theorem record_irb (e : Call) : (s.record e).irb = s.irb := rfl
@[simp] theorem record_orb (e : Call) : (s.record e).orb = s.orb := rfl
@[simp] theorem record_env (e : Call) : (s.record e).env = s.env := rfl
@[simp] theorem record_payload (e : Call) : (s.record e).payload = s.payload := rfl
@[simp] theorem record_par (e : Call) : (s.record e).par = s.par := rfl
@[simp] theorem record_cmd (e : Call) : (s.record e).cmd = s.cmd := rfl
@[simp] theorem record_calls (e : Call) : (s.record e).calls = e :: s.calls := rfl
@[simp] theorem record_halt (e : Call) : (s.record e).halt = s.halt := rfl
@[simp] theorem record_timer (e : Call) (j : TimerId) : (s.record e).timer j = s.timer j := rfl
@[simp] theorem record_gen (e : Call) (j : GenId) : (s.record e).gen j = s.gen j := by cases j <;> rfl
@[simp] theorem record_fm (e : Call) : (s.record e).fm = s.fm := rfl

/-! ### `raise` -/

@[simp] theorem raise_state (f : Fault) : (s.raise f).state = s.state := rfl
@[simp] theorem raise_tmr (f : Fault) : (s.raise f).tmr = s.tmr := rfl
@[simp] theorem raise_decodeEn (f : Fault) : (s.raise f).decodeEn = s.decodeEn := rfl
@[simp] theorem raise_adcDetEn (f : Fault) : (s.raise f).adcDetEn = s.adcDetEn := rfl
@[simp] theorem raise_mode (f : Fault) : (s.raise f).mode = s.mode := rfl
@[simp] theorem raise_cfg (f : Fault) : (s.raise f).cfg = s.cfg := rfl
@[simp] theorem raise_orbOvf (f : Fault) : (s.raise f).orbOvf = s.orbOvf := rfl
@[simp] theorem raise_res (f : Fault) : (s.raise f).res = s.res := rfl
@[simp] theorem raise_filt (f : Fault) : (s.raise f).filt = s.filt := rfl
@[simp] theorem raise_irb (f : Fault) : (s.raise f).irb = s.irb := rfl
@[simp] theorem raise_orb (f : Fault) : (s.raise f).orb = s.orb := rfl
@[simp] theorem raise_env (f : Fault) : (s.raise f).env = s.env := rfl
@[simp] theorem raise_payload (f : Fault) : (s.raise f).payload = s.payload := rfl
@[simp] theorem raise_par (f : Fault) : (s.raise f).par = s.par := rfl
@[simp] theorem raise_cmd (f : Fault) : (s.raise f).cmd = s.cmd := rfl
@[simp] theorem raise_calls (f : Fault) : (s.raise f).calls = s.calls := rfl
@[simp] theorem raise_halt (f : Fault) : (s.raise f).halt = some (s.halt.getD f) := rfl
@[simp] theorem raise_timer (f : Fault) (j : TimerId) : (s.raise f).timer j = s.timer j := rfl
@[simp] theorem raise_gen (f : Fault) (j : GenId) : (s.raise f).gen j = s.gen j := by cases j <;> rfl
@[simp] theorem raise_fm (f : Fault) : (s.raise f).fm = s.fm := rfl

/-! ### `beginOp` -/

@[simp] theorem beginOp_state : (s.beginOp).state = s.state := rfl
@[simp] theorem beginOp_tmr : (s.beginOp).tmr = s.tmr := rfl
@[simp] theorem beginOp_decodeEn : (s.beginOp).decodeEn = s.decodeEn := rfl
@[simp] theorem beginOp_adcDetEn : (s.beginOp).adcDetEn = s.adcDetEn := rfl
@[simp] theorem beginOp_mode : (s.beginOp).mode = s.mode := rfl
@[simp] theorem beginOp_cfg : (s.beginOp).cfg = s.cfg := rfl
@[simp] theorem beginOp_orbOvf : (s.beginOp).orbOvf = s.orbOvf := rfl
@[simp] theorem beginOp_res : (s.beginOp).res = s.res := rfl
@[simp] theorem beginOp_filt : (s.beginOp).filt = s.filt := rfl
@[simp] theorem beginOp_irb : (s.beginOp).irb = s.irb := rfl
@[simp] theorem beginOp_orb : (s.beginOp).orb = s.orb := rfl
@[simp] theorem beginOp_env : (s.beginOp).env = s.env := rfl
@[simp] theorem beginOp_payload : (s.beginOp).payload = s.payload := rfl
@[simp] theorem beginOp_par : (s.beginOp).par = s.par := rfl
@[simp] theorem beginOp_cmd : (s.beginOp).cmd = s.cmd := rfl
@[simp] theorem beginOp_calls : (s.beginOp).calls = [] := rfl
@[simp] theorem beginOp_halt : (s.beginOp).halt = none := rfl
@[simp] theorem beginOp_timer (j : TimerId) : (s.beginOp).timer j = s.timer j := rfl
@[simp] theorem beginOp_gen (j : GenId) : (s.beginOp).gen j = s.gen j := by cases j <;> rfl
@[simp] theorem beginOp_fm : (s.beginOp).fm = s.fm := rfl

/-! ### `setLines` -/

@[simp] theorem setLines_state (b : Bool) : (setLines b s).state = s.state := rfl
@[simp] theorem setLines_tmr (b : Bool) : (setLines b s).tmr = s.tmr := rfl
@[simp] theorem setLines_decodeEn (b : Bool) : (setLines b s).decodeEn = b := rfl
@[simp] theorem setLines_adcDetEn (b : Bool) : (setLines b s).adcDetEn = b := rfl
@[simp] theorem setLines_mode (b : Bool) : (setLines b s).mode = s.mode := rfl
@[simp] theorem setLines_cfg (b : Bool) : (setLines b s).cfg = s.cfg := rfl
@[simp] theorem setLines_orbOvf (b : Bool) : (setLines b s).orbOvf = s.orbOvf := rfl
@[simp] theorem setLines_res (b : Bool) : (setLines b s).res = s.res := rfl
@[simp] theorem setLines_filt (b : Bool) : (setLines b s).filt = s.filt := rfl
@[simp] theorem setLines_irb (b : Bool) : (setLines b s).irb = s.irb := rfl
@[simp] theorem setLines_orb (b : Bool) : (setLines b s).orb = s.orb := rfl
@[simp] theorem setLines_env (b : Bool) : (setLines b s).env = s.env := rfl
@[simp] theorem setLines_payload (b : Bool) : (setLines b s).payload = s.payload := rfl
@[simp] theorem setLines_par (b : Bool) : (setLines b s).par = s.par := rfl
@[simp] theorem setLines_cmd (b : Bool) : (setLines b s).cmd = s.cmd := rfl
@[simp] theorem setLines_calls (b : Bool) : (setLines b s).calls = s.calls := rfl
@[simp] theorem setLines_halt (b : Bool) : (setLines b s).halt = s.halt := rfl
@[simp] theorem setLines_timer (b : Bool) (j : TimerId) : (setLines b s).timer j = s.timer j := rfl
@[simp] theorem setLines_gen (b : Bool) (j : GenId) : (setLines b s).gen j = s.gen j := by cases j <;> rfl
@[simp] theorem setLines_fm (b : Bool) : (setLines b s).fm = s.fm := rfl

/-! ### `setMode` -/

@[simp] theorem setMode_state (m : ModeWord) : (setMode m s).state = s.state := rfl
@[simp] theorem setMode_tmr (m : ModeWord) : (setMode m s).tmr = s.tmr := rfl
@[simp] theorem setMode_decodeEn (m : ModeWord) : (setMode m s).decodeEn = s.decodeEn := rfl
@[simp] theorem setMode_adcDetEn (m : ModeWord) : (setMode m s).adcDetEn = s.adcDetEn := rfl
@[simp] theorem setMode_mode (m : ModeWord) : (setMode m s).mode = m := rfl
@[simp] theorem setMode_cfg (m : ModeWord) : (setMode m s).cfg = s.cfg := rfl
@[simp] theorem setMode_orbOvf (m : ModeWord) : (setMode m s).orbOvf = s.orbOvf := rfl
@[simp] theorem setMode_res (m : ModeWord) : (setMode m s).res = s.res := rfl
@[simp] theorem setMode_filt (m : ModeWord) : (setMode m s).filt = s.filt := rfl
@[simp] theorem setMode_irb (m : ModeWord) : (setMode m s).irb = s.irb := rfl
@[simp] theorem setMode_orb (m : ModeWord) : (setMode m s).orb = s.orb := rfl
@[simp] theorem setMode_env (m : ModeWord) : (setMode m s).env = s.env := rfl
@[simp] theorem setMode_payload (m : ModeWord) : (setMode m s).payload = s.payload := rfl
@[simp] theorem setMode_par (m : ModeWord) : (setMode m s).par = s.par := rfl
@[simp] theorem setMode_cmd (m : ModeWord) : (setMode m s).cmd = s.cmd := rfl
@[simp] theorem setMode_calls (m : ModeWord) : (setMode m s).calls = s.calls := rfl
@[simp] theorem setMode_halt (m : ModeWord) : (setMode m s).halt = s.halt := rfl
@[simp] theorem setMode_timer (m : ModeWord) (j : TimerId) : (setMode m s).timer j = s.timer j := rfl
@[simp] theorem setMode_gen (m : ModeWord) (j : GenId) : (setMode m s).gen j = s.gen j := by cases j <;> rfl

/-! ### `modTimer` -/

@[simp] theorem modTimer_state (k : TimerId) (f : Timer → Timer) : (s.modTimer k f).state = s.state := rfl
@[simp] theorem modTimer_tmr (k : TimerId) (f : Timer → Timer) : (s.modTimer k f).tmr = s.tmr.modify k f := rfl
@[simp] theorem modTimer_decodeEn (k : TimerId) (f : Timer → Timer) : (s.modTimer k f).decodeEn = s.decodeEn := rfl
@[simp] theorem modTimer_adcDetEn (k : TimerId) (f : Timer → Timer) : (s.modTimer k f).adcDetEn = s.adcDetEn := rfl
@[simp] theorem modTimer_mode (k : TimerId) (f : Timer → Timer) : (s.modTimer k f).mode = s.mode := rfl
@[simp] theorem modTimer_cfg (k : TimerId) (f : Timer → Timer) : (s.modTimer k f).cfg = s.cfg := rfl
@[simp] theorem modTimer_orbOvf (k : TimerId) (f : Timer → Timer) : (s.modTimer k f).orbOvf = s.orbOvf := rfl
@[simp] theorem modTimer_res (k : TimerId) (f : Timer → Timer) : (s.modTimer k f).res = s.res := rfl
@[simp] theorem modTimer_filt (k : TimerId) (f : Timer → Timer) : (s.modTimer k f).filt = s.filt := rfl
@[simp] theorem modTimer_irb (k : TimerId) (f : Timer → Timer) : (s.modTimer k f).irb = s.irb := rfl
@[simp] theorem modTimer_orb (k : TimerId) (f : Timer → Timer) : (s.modTimer k f).orb = s.orb := rfl
@[simp] theorem modTimer_env (k : TimerId) (f : Timer → Timer) : (s.modTimer k f).env = s.env := rfl
@[simp] theorem modTimer_payload (k : TimerId) (f : Timer → Timer) : (s.modTimer k f).payload = s.payload := rfl
@[simp] theorem modTimer_par (k : TimerId) (f : Timer → Timer) : (s.modTimer k f).par = s.par := rfl
@[simp] theorem modTimer_cmd (k : TimerId) (f : Timer → Timer) : (s.modTimer k f).cmd = s.cmd := rfl
@[simp] theorem modTimer_calls (k : TimerId) (f : Timer → Timer) : (s.modTimer k f).calls = s.calls := rfl
@[simp] theorem modTimer_halt (k : TimerId) (f : Timer → Timer) : (s.modTimer k f).halt = s.halt := rfl
@[simp] theorem modTimer_gen (k : TimerId) (f : Timer → Timer) (j : GenId) : (s.modTimer k f).gen j = s.gen j := by cases j <;> rfl
@[simp] theorem modTimer_fm (k : TimerId) (f : Timer → Timer) : (s.modTimer k f).fm = s.fm := rfl

/-! ### `clockAll` -/

@[simp] theorem clockAll_state (n : Nat) : (clockAll n s).state = s.state := rfl
@[simp] theorem clockAll_tmr (n : Nat) : (clockAll n s).tmr = s.tmr.map (Timer.clock n) := rfl
@[simp] theorem clockAll_decodeEn (n : Nat) : (clockAll n s).decodeEn = s.decodeEn := rfl
@[simp] theorem clockAll_adcDetEn (n : Nat) : (clockAll n s).adcDetEn = s.adcDetEn := rfl
@[simp] theorem clockAll_mode (n : Nat) : (clockAll n s).mode = s.mode := rfl
@[simp] theorem clockAll_cfg (n : Nat) : (clockAll n s).cfg = s.cfg := rfl
@[simp] theorem clockAll_orbOvf (n : Nat) : (clockAll n s).orbOvf = s.orbOvf := rfl
@[simp] theorem clockAll_res (n : Nat) : (clockAll n s).res = s.res := rfl
@[simp] theorem clockAll_filt (n : Nat) : (clockAll n s).filt = s.filt := rfl
@[simp] theorem clockAll_irb (n : Nat) : (clockAll n s).irb = s.irb := rfl
@[simp] theorem clockAll_orb (n : Nat) : (clockAll n s).orb = s.orb := rfl
@[simp] theorem clockAll_env (n : Nat) : (clockAll n s).env = s.env := rfl
@[simp] theorem clockAll_payload (n : Nat) : (clockAll n s).payload = s.payload := rfl
@[simp] theorem clockAll_par (n : Nat) : (clockAll n s).par = s.par := rfl
@[simp] theorem clockAll_cmd (n : Nat) : (clockAll n s).cmd = s.cmd := rfl
@[simp] theorem clockAll_calls (n : Nat) : (clockAll n s).calls = s.calls := rfl
@[simp] theorem clockAll_halt (n : Nat) : (clockAll n s).halt = s.halt := rfl
@[simp] theorem clockAll_gen (n : Nat) (j : GenId) : (clockAll n s).gen j = s.gen j := by cases j <;> rfl
@[simp] theorem clockAll_fm (n : Nat) : (clockAll n s).fm = s.fm := rfl

/-! ### `finish` -/

@[simp] theorem finish_state (c : StatusCode) : (finish c s).state = s.state := rfl
@[simp] theorem finish_tmr (c : StatusCode) : (finish c s).tmr = s.tmr := rfl
@[simp] theorem finish_decodeEn (c : StatusCode) : (finish c s).decodeEn = s.decodeEn := rfl
@[simp] theorem finish_adcDetEn (c : StatusCode) : (finish c s).adcDetEn = s.adcDetEn := rfl
@[simp] theorem finish_mode (c : StatusCode) : (finish c s).mode = s.mode := rfl
@[simp] theorem finish_cfg (c : StatusCode) : (finish c s).cfg = s.cfg := rfl
@[simp] theorem finish_orbOvf (c : StatusCode) : (finish c s).orbOvf = s.orbOvf := rfl
@[simp] theorem finish_res (c : StatusCode) : (finish c s).res = ⟨c, false, 0⟩ := rfl
@[simp] theorem finish_filt (c : StatusCode) : (finish c s).filt = s.filt := rfl
@[simp] theorem finish_irb (c : StatusCode) : (finish c s).irb = s.irb := rfl
@[simp] theorem finish_orb (c : StatusCode) : (finish c s).orb = s.orb := rfl
@[simp] theorem finish_env (c : StatusCode) : (finish c s).env = s.env := rfl
@[simp] theorem finish_payload (c : StatusCode) : (finish c s).payload = s.payload := rfl
@[simp] theorem finish_par (c : StatusCode) : (finish c s).par = s.par := rfl
@[simp] theorem finish_cmd (c : StatusCode) : (finish c s).cmd = s.cmd := rfl
@[simp] theorem finish_calls (c : StatusCode) : (finish c s).calls = s.calls := rfl
@[simp] theorem finish_halt (c : StatusCode) : (finish c s).halt = s.halt := rfl
@[simp] theorem finish_timer (c : StatusCode) (j : TimerId) : (finish c s).timer j = s.timer j := rfl
@[simp] theorem finish_gen (c : StatusCode) (j : GenId) : (finish c s).gen j = s.gen j := by cases j <;> rfl
@[simp] theorem finish_fm (c : StatusCode) : (finish c s).fm = s.fm := rfl

/-! ### `refuse` -/

@[simp] theorem refuse_state (r : BitVec 3) : (refuse r s).state = s.state := rfl
@[simp] theorem refuse_tmr (r : BitVec 3) : (refuse r s).tmr = s.tmr := rfl
@[simp] theorem refuse_decodeEn (r : BitVec 3) : (refuse r s).decodeEn = s.decodeEn := rfl
@[simp] theorem refuse_adcDetEn (r : BitVec 3) : (refuse r s).adcDetEn = s.adcDetEn := rfl
@[simp] theorem refuse_mode (r : BitVec 3) : (refuse r s).mode = s.mode := rfl
@[simp] theorem refuse_cfg (r : BitVec 3) : (refuse r s).cfg = s.cfg := rfl
@[simp] theorem refuse_orbOvf (r : BitVec 3) : (refuse r s).orbOvf = s.orbOvf := rfl
@[simp] theorem refuse_res (r : BitVec 3) : (refuse r s).res = ⟨0, true, r⟩ := rfl
@[simp] theorem refuse_filt (r : BitVec 3) : (refuse r s).filt = s.filt := rfl
@[simp] theorem refuse_irb (r : BitVec 3) : (refuse r s).irb = s.irb := rfl
@[simp] theorem refuse_orb (r : BitVec 3) : (refuse r s).orb = s.orb := rfl
@[simp] theorem refuse_env (r : BitVec 3) : (refuse r s).env = s.env := rfl
@[simp] theorem refuse_payload (r : BitVec 3) : (refuse r s).payload = s.payload := rfl
@[simp] theorem refuse_par (r : BitVec 3) : (refuse r s).par = s.par := rfl
@[simp] theorem refuse_cmd (r : BitVec 3) : (refuse r s).cmd = s.cmd := rfl
@[simp] theorem refuse_calls (r : BitVec 3) : (refuse r s).calls = s.calls := rfl
@[simp] theorem refuse_halt (r : BitVec 3) : (refuse r s).halt = s.halt := rfl
@[simp] theorem refuse_timer (r : BitVec 3) (j : TimerId) : (refuse r s).timer j = s.timer j := rfl
@[simp] theorem refuse_gen (r : BitVec 3) (j : GenId) : (refuse r s).gen j = s.gen j := by cases j <;> rfl
@[simp] theorem refuse_fm (r : BitVec 3) : (refuse r s).fm = s.fm := rfl

/-! ### `clearOrb` -/

@[simp] theorem clearOrb_state : (clearOrb s).state = s.state := rfl
@[simp] theorem clearOrb_tmr : (clearOrb s).tmr = s.tmr := rfl
@[simp] theorem clearOrb_decodeEn : (clearOrb s).decodeEn = s.decodeEn := rfl
@[simp] theorem clearOrb_adcDetEn : (clearOrb s).adcDetEn = s.adcDetEn := rfl
@[simp] theorem clearOrb_mode : (clearOrb s).mode = s.mode := rfl
@[simp] theorem clearOrb_cfg : (clearOrb s).cfg = s.cfg := rfl
@[simp] theorem clearOrb_orbOvf : (clearOrb s).orbOvf = false := rfl
@[simp] theorem clearOrb_res : (clearOrb s).res = s.res := rfl
@[simp] theorem clearOrb_filt : (clearOrb s).filt = s.filt := rfl
@[simp] theorem clearOrb_irb : (clearOrb s).irb = s.irb := rfl
@[simp] theorem clearOrb_orb : (clearOrb s).orb = [] := rfl
@[simp] theorem clearOrb_env : (clearOrb s).env = s.env := rfl
@[simp] theorem clearOrb_payload : (clearOrb s).payload = s.payload := rfl
@[simp] theorem clearOrb_par : (clearOrb s).par = s.par := rfl
@[simp] theorem clearOrb_cmd : (clearOrb s).cmd = s.cmd := rfl
@[simp] theorem clearOrb_calls : (clearOrb s).calls = s.calls := rfl
@[simp] theorem clearOrb_halt : (clearOrb s).halt = s.halt := rfl
@[simp] theorem clearOrb_timer (j : TimerId) : (clearOrb s).timer j = s.timer j := rfl
@[simp] theorem clearOrb_gen (j : GenId) : (clearOrb s).gen j = s.gen j := by cases j <;> rfl
@[simp] theorem clearOrb_fm : (clearOrb s).fm = s.fm := rfl

/-! ### `setGen` -/

@[simp] theorem setGen_state (k : GenId) (g : Gen) : (s.setGen k g).state = s.state := by cases k <;> rfl
@[simp] theorem setGen_tmr (k : GenId) (g : Gen) : (s.setGen k g).tmr = s.tmr := by cases k <;> rfl
@[simp] theorem setGen_decodeEn (k : GenId) (g : Gen) : (s.setGen k g).decodeEn = s.decodeEn := by cases k <;> rfl
@[simp] theorem setGen_adcDetEn (k : GenId) (g : Gen) : (s.setGen k g).adcDetEn = s.adcDetEn := by cases k <;> rfl
@[simp] theorem setGen_mode (k : GenId) (g : Gen) : (s.setGen k g).mode = s.mode := by cases k <;> rfl
@[simp] theorem setGen_cfg (k : GenId) (g : Gen) : (s.setGen k g).cfg = s.cfg := by cases k <;> rfl
@[simp] theorem setGen_orbOvf (k : GenId) (g : Gen) : (s.setGen k g).orbOvf = s.orbOvf := by cases k <;> rfl
@[simp] theorem setGen_res (k : GenId) (g : Gen) : (s.setGen k g).res = s.res := by cases k <;> rfl
@[simp] theorem setGen_filt (k : GenId) (g : Gen) : (s.setGen k g).filt = s.filt := by cases k <;> rfl
@[simp] theorem setGen_irb (k : GenId) (g : Gen) : (s.setGen k g).irb = s.irb := by cases k <;> rfl
@[simp] theorem setGen_orb (k : GenId) (g : Gen) : (s.setGen k g).orb = s.orb := by cases k <;> rfl
@[simp] theorem setGen_payload (k : GenId) (g : Gen) : (s.setGen k g).payload = s.payload := by cases k <;> rfl
@[simp] theorem setGen_par (k : GenId) (g : Gen) : (s.setGen k g).par = s.par := by cases k <;> rfl
@[simp] theorem setGen_cmd (k : GenId) (g : Gen) : (s.setGen k g).cmd = s.cmd := by cases k <;> rfl
@[simp] theorem setGen_calls (k : GenId) (g : Gen) : (s.setGen k g).calls = s.calls := by cases k <;> rfl
@[simp] theorem setGen_halt (k : GenId) (g : Gen) : (s.setGen k g).halt = s.halt := by cases k <;> rfl
@[simp] theorem setGen_rx (k : GenId) (g : Gen) : (s.setGen k g).env.rx = s.env.rx := by cases k <;> rfl
@[simp] theorem setGen_tx (k : GenId) (g : Gen) : (s.setGen k g).env.tx = s.env.tx := by cases k <;> rfl
@[simp] theorem setGen_sink (k : GenId) (g : Gen) : (s.setGen k g).env.sink = s.env.sink := by cases k <;> rfl
@[simp] theorem setGen_blankParams (k : GenId) (g : Gen) : (s.setGen k g).env.blankParams = s.env.blankParams := by cases k <;> rfl
@[simp] theorem setGen_timer (k : GenId) (g : Gen) (j : TimerId) : (s.setGen k g).timer j = s.timer j := by cases k <;> rfl
@[simp] theorem setGen_fm (k : GenId) (g : Gen) : (s.setGen k g).fm = s.fm := by cases k <;> rfl

/-- A generator read back: the one replaced is new, the others are as they were. -/
@[simp] theorem setGen_gen (k : GenId) (g : Gen) (j : GenId) : (s.setGen k g).gen j = if j = k then g else s.gen j := by
  cases k <;> cases j <;> rfl

/-! ### Timers read back -/

/-- `T[j]` after `T[k]` was changed by `f`. -/
@[simp] theorem modify_get (ts : Timers) (k : TimerId) (f : Timer → Timer) (j : TimerId) :
    (ts.modify k f).get j = if j = k then f (ts.get k) else ts.get j := by
  cases k <;> cases j <;> rfl

/-- `T[j]` after every timer was changed by `f`. -/
@[simp] theorem map_get (ts : Timers) (f : Timer → Timer) (j : TimerId) : (ts.map f).get j = f (ts.get j) := by
  cases j <;> rfl

/-- `T[j]` of the block after `T[k]` was changed by `f`. -/
@[simp] theorem modTimer_timer (k : TimerId) (f : Timer → Timer) (j : TimerId) :
    (s.modTimer k f).timer j = if j = k then f (s.timer k) else s.timer j := modify_get s.tmr k f j

/-- `T[j]` of the block after ClockAll. -/
@[simp] theorem clockAll_timer (n : Nat) (j : TimerId) : (clockAll n s).timer j = (s.timer j).clock n :=
  map_get s.tmr (Timer.clock n) j

/-- Two timer sets that agree on every index are equal. -/
theorem timers_ext {a b : Timers} (h : ∀ k, a.get k = b.get k) : a = b := by
  have h0 := h .id; have h1 := h .ackDly; have h2 := h .minAck; have h3 := h .timeout
  have h4 := h .hold; have h5 := h .hang; have h6 := h .ker
  cases a; cases b; simp only [Timers.get] at *; simp_all

/-- Two states that agree on every timer have the same timer set. -/
theorem tmr_ext {s t : State} (h : ∀ k, s.timer k = t.timer k) : s.tmr = t.tmr := timers_ext h

/-- Two states that agree on every collaborator have the same environment. -/
theorem env_ext {s t : State} (gen : ∀ k, s.gen k = t.gen k) (rx : s.env.rx = t.env.rx) (tx : s.env.tx = t.env.tx)
    (sink : s.env.sink = t.env.sink) (blankParams : s.env.blankParams = t.env.blankParams) : s.env = t.env :=
  Env.ext rx tx (gen .idgen) (gen .ackgen) (gen .totone) sink blankParams

/-- A timer of a state written out field by field is a timer of its timer set. -/
theorem mk_timer (a : Ctl) (ts : Timers) (b1 b2 : Bool) (m : ModeWord) (c : Cfg) (o : Bool) (r : Result)
    (f : Filters) (i q : List Sample) (e : Env) (p : Payloads) (pa : Params) (w : List CmdWord) (l : List Call)
    (h : Option Fault) (j : TimerId) :
    State.timer j ⟨a, ts, b1, b2, m, c, o, r, f, i, q, e, p, pa, w, l, h⟩ = ts.get j := rfl
theorem tmr_get (j : TimerId) : s.tmr.get j = s.timer j := rfl

/-! ### One timer -/

@[simp] theorem configure_dur (d o : Ticks) (t : Timer) : (t.configure d o).dur = d := rfl
@[simp] theorem configure_off (d o : Ticks) (t : Timer) : (t.configure d o).off = o := rfl
@[simp] theorem configure_el (d o : Ticks) (t : Timer) : (t.configure d o).el = t.el := rfl
@[simp] theorem configure_run (d o : Ticks) (t : Timer) : (t.configure d o).run = t.run := rfl
@[simp] theorem stop_dur (t : Timer) : t.stop.dur = t.dur := rfl
@[simp] theorem stop_off (t : Timer) : t.stop.off = t.off := rfl
@[simp] theorem stop_el (t : Timer) : t.stop.el = t.el := rfl
@[simp] theorem stop_run (t : Timer) : t.stop.run = false := rfl
@[simp] theorem start_dur (t : Timer) : t.start.dur = t.dur := by unfold Timer.start; split <;> rfl
@[simp] theorem start_off (t : Timer) : t.start.off = t.off := by unfold Timer.start; split <;> rfl
@[simp] theorem clock_dur (n : Nat) (t : Timer) : (t.clock n).dur = t.dur := by unfold Timer.clock; split <;> rfl
@[simp] theorem clock_off (n : Nat) (t : Timer) : (t.clock n).off = t.off := by unfold Timer.clock; split <;> rfl
@[simp] theorem clock_run (n : Nat) (t : Timer) : (t.clock n).run = t.run := by unfold Timer.clock; split <;> rfl

end Sys2Proof.Machine
end

