-- ==== Sys2Proof/Laws/Ops.lean ====
section
/-! SUPPORT. What each shared operation can do, said once: the FIFOs, the timers, the collaborator calls, the writes of
`state`. Later proofs cite these instead of unfolding. -/

namespace Sys2Proof.Machine

variable (s : State)

/-! ### Timer primitives on the block -/

@[simp] theorem timerStart_state (k : TimerId) : (timerStart k s).state = s.state := rfl
@[simp] theorem timerStart_decodeEn (k : TimerId) : (timerStart k s).decodeEn = s.decodeEn := rfl
@[simp] theorem timerStart_adcDetEn (k : TimerId) : (timerStart k s).adcDetEn = s.adcDetEn := rfl
@[simp] theorem timerStart_mode (k : TimerId) : (timerStart k s).mode = s.mode := rfl
@[simp] theorem timerStart_cfg (k : TimerId) : (timerStart k s).cfg = s.cfg := rfl
@[simp] theorem timerStart_orbOvf (k : TimerId) : (timerStart k s).orbOvf = s.orbOvf := rfl
@[simp] theorem timerStart_res (k : TimerId) : (timerStart k s).res = s.res := rfl
@[simp] theorem timerStart_filt (k : TimerId) : (timerStart k s).filt = s.filt := rfl
@[simp] theorem timerStart_irb (k : TimerId) : (timerStart k s).irb = s.irb := rfl
@[simp] theorem timerStart_orb (k : TimerId) : (timerStart k s).orb = s.orb := rfl
@[simp] theorem timerStart_env (k : TimerId) : (timerStart k s).env = s.env := rfl
@[simp] theorem timerStart_payload (k : TimerId) : (timerStart k s).payload = s.payload := rfl
@[simp] theorem timerStart_par (k : TimerId) : (timerStart k s).par = s.par := rfl
@[simp] theorem timerStart_cmd (k : TimerId) : (timerStart k s).cmd = s.cmd := rfl
@[simp] theorem timerStart_calls (k : TimerId) : (timerStart k s).calls = s.calls := rfl
@[simp] theorem timerStart_halt (k : TimerId) : (timerStart k s).halt = s.halt := rfl
@[simp] theorem timerStart_gen (k : TimerId) (j : GenId) : (timerStart k s).gen j = s.gen j := by cases j <;> rfl
@[simp] theorem timerStart_fm (k : TimerId) : (timerStart k s).fm = s.fm := rfl

@[simp] theorem timerStop_state (k : TimerId) : (timerStop k s).state = s.state := rfl
@[simp] theorem timerStop_decodeEn (k : TimerId) : (timerStop k s).decodeEn = s.decodeEn := rfl
@[simp] theorem timerStop_adcDetEn (k : TimerId) : (timerStop k s).adcDetEn = s.adcDetEn := rfl
@[simp] theorem timerStop_mode (k : TimerId) : (timerStop k s).mode = s.mode := rfl
@[simp] theorem timerStop_cfg (k : TimerId) : (timerStop k s).cfg = s.cfg := rfl
@[simp] theorem timerStop_orbOvf (k : TimerId) : (timerStop k s).orbOvf = s.orbOvf := rfl
@[simp] theorem timerStop_res (k : TimerId) : (timerStop k s).res = s.res := rfl
@[simp] theorem timerStop_filt (k : TimerId) : (timerStop k s).filt = s.filt := rfl
@[simp] theorem timerStop_irb (k : TimerId) : (timerStop k s).irb = s.irb := rfl
@[simp] theorem timerStop_orb (k : TimerId) : (timerStop k s).orb = s.orb := rfl
@[simp] theorem timerStop_env (k : TimerId) : (timerStop k s).env = s.env := rfl
@[simp] theorem timerStop_payload (k : TimerId) : (timerStop k s).payload = s.payload := rfl
@[simp] theorem timerStop_par (k : TimerId) : (timerStop k s).par = s.par := rfl
@[simp] theorem timerStop_cmd (k : TimerId) : (timerStop k s).cmd = s.cmd := rfl
@[simp] theorem timerStop_calls (k : TimerId) : (timerStop k s).calls = s.calls := rfl
@[simp] theorem timerStop_halt (k : TimerId) : (timerStop k s).halt = s.halt := rfl
@[simp] theorem timerStop_gen (k : TimerId) (j : GenId) : (timerStop k s).gen j = s.gen j := by cases j <;> rfl
@[simp] theorem timerStop_fm (k : TimerId) : (timerStop k s).fm = s.fm := rfl

@[simp] theorem timerConfigure_state (k : TimerId) (d o : Ticks) : (timerConfigure k d o s).state = s.state := rfl
@[simp] theorem timerConfigure_decodeEn (k : TimerId) (d o : Ticks) : (timerConfigure k d o s).decodeEn = s.decodeEn := rfl
@[simp] theorem timerConfigure_adcDetEn (k : TimerId) (d o : Ticks) : (timerConfigure k d o s).adcDetEn = s.adcDetEn := rfl
@[simp] theorem timerConfigure_mode (k : TimerId) (d o : Ticks) : (timerConfigure k d o s).mode = s.mode := rfl
@[simp] theorem timerConfigure_cfg (k : TimerId) (d o : Ticks) : (timerConfigure k d o s).cfg = s.cfg := rfl
@[simp] theorem timerConfigure_orbOvf (k : TimerId) (d o : Ticks) : (timerConfigure k d o s).orbOvf = s.orbOvf := rfl
@[simp] theorem timerConfigure_res (k : TimerId) (d o : Ticks) : (timerConfigure k d o s).res = s.res := rfl
@[simp] theorem timerConfigure_filt (k : TimerId) (d o : Ticks) : (timerConfigure k d o s).filt = s.filt := rfl
@[simp] theorem timerConfigure_irb (k : TimerId) (d o : Ticks) : (timerConfigure k d o s).irb = s.irb := rfl
@[simp] theorem timerConfigure_orb (k : TimerId) (d o : Ticks) : (timerConfigure k d o s).orb = s.orb := rfl
@[simp] theorem timerConfigure_env (k : TimerId) (d o : Ticks) : (timerConfigure k d o s).env = s.env := rfl
@[simp] theorem timerConfigure_payload (k : TimerId) (d o : Ticks) : (timerConfigure k d o s).payload = s.payload := rfl
@[simp] theorem timerConfigure_par (k : TimerId) (d o : Ticks) : (timerConfigure k d o s).par = s.par := rfl
@[simp] theorem timerConfigure_cmd (k : TimerId) (d o : Ticks) : (timerConfigure k d o s).cmd = s.cmd := rfl
@[simp] theorem timerConfigure_calls (k : TimerId) (d o : Ticks) : (timerConfigure k d o s).calls = s.calls := rfl
@[simp] theorem timerConfigure_halt (k : TimerId) (d o : Ticks) : (timerConfigure k d o s).halt = s.halt := rfl
@[simp] theorem timerConfigure_gen (k : TimerId) (d o : Ticks) (j : GenId) : (timerConfigure k d o s).gen j = s.gen j := by cases j <;> rfl
@[simp] theorem timerConfigure_fm (k : TimerId) (d o : Ticks) : (timerConfigure k d o s).fm = s.fm := rfl

/-- Start touches its own timer only (40_timers R122). -/
@[simp] theorem timerStart_timer (k j : TimerId) :
    (timerStart k s).timer j = if j = k then (s.timer k).start else s.timer j := modTimer_timer s k Timer.start j

/-- Stop touches its own timer only (40_timers R123). -/
@[simp] theorem timerStop_timer (k j : TimerId) :
    (timerStop k s).timer j = if j = k then (s.timer k).stop else s.timer j := modTimer_timer s k Timer.stop j

/-- Configure touches its own timer only (40_timers R121). -/
@[simp] theorem timerConfigure_timer (k j : TimerId) (d o : Ticks) :
    (timerConfigure k d o s).timer j = if j = k then (s.timer k).configure d o else s.timer j :=
  modTimer_timer s k (Timer.configure d o) j

/-! ### `stopAll` -/

@[simp] theorem stopAll_state : (stopAll s).state = s.state := by unfold stopAll; dsimp only; split <;> rfl
@[simp] theorem stopAll_decodeEn : (stopAll s).decodeEn = s.decodeEn := by unfold stopAll; dsimp only; split <;> rfl
@[simp] theorem stopAll_adcDetEn : (stopAll s).adcDetEn = s.adcDetEn := by unfold stopAll; dsimp only; split <;> rfl
@[simp] theorem stopAll_mode : (stopAll s).mode = s.mode := by unfold stopAll; dsimp only; split <;> rfl
@[simp] theorem stopAll_cfg : (stopAll s).cfg = s.cfg := by unfold stopAll; dsimp only; split <;> rfl
@[simp] theorem stopAll_orbOvf : (stopAll s).orbOvf = s.orbOvf := by unfold stopAll; dsimp only; split <;> rfl
@[simp] theorem stopAll_res : (stopAll s).res = s.res := by unfold stopAll; dsimp only; split <;> rfl
@[simp] theorem stopAll_filt : (stopAll s).filt = s.filt := by unfold stopAll; dsimp only; split <;> rfl
@[simp] theorem stopAll_irb : (stopAll s).irb = s.irb := by unfold stopAll; dsimp only; split <;> rfl
@[simp] theorem stopAll_orb : (stopAll s).orb = s.orb := by unfold stopAll; dsimp only; split <;> rfl
@[simp] theorem stopAll_env : (stopAll s).env = s.env := by unfold stopAll; dsimp only; split <;> rfl
@[simp] theorem stopAll_payload : (stopAll s).payload = s.payload := by unfold stopAll; dsimp only; split <;> rfl
@[simp] theorem stopAll_par : (stopAll s).par = s.par := by unfold stopAll; dsimp only; split <;> rfl
@[simp] theorem stopAll_cmd : (stopAll s).cmd = s.cmd := by unfold stopAll; dsimp only; split <;> rfl
@[simp] theorem stopAll_calls : (stopAll s).calls = s.calls := by unfold stopAll; dsimp only; split <;> rfl
@[simp] theorem stopAll_halt : (stopAll s).halt = s.halt := by unfold stopAll; dsimp only; split <;> rfl
@[simp] theorem stopAll_gen (j : GenId) : (stopAll s).gen j = s.gen j := by cases j <;> simp [State.gen]
@[simp] theorem stopAll_fm : (stopAll s).fm = s.fm := by simp [State.fm]

/-- StopAll stops every timer, the holdoff timer when `STOPALL_HOLDOFF` is true (40_timers R128). -/
@[simp] theorem stopAll_timer (j : TimerId) :
    (stopAll s).timer j = if j = .hold ∧ s.par.stopAllHoldoff = false then s.timer j else (s.timer j).stop := by
  unfold stopAll
  cases j <;> cases h : s.par.stopAllHoldoff <;> simp [h]

/-! ### `setCtl` -/

@[simp] theorem setCtl_tmr (c : Ctl) : (setCtl c s).tmr = s.tmr := by unfold setCtl; split <;> rfl
@[simp] theorem setCtl_decodeEn (c : Ctl) : (setCtl c s).decodeEn = s.decodeEn := by unfold setCtl; split <;> rfl
@[simp] theorem setCtl_adcDetEn (c : Ctl) : (setCtl c s).adcDetEn = s.adcDetEn := by unfold setCtl; split <;> rfl
@[simp] theorem setCtl_mode (c : Ctl) : (setCtl c s).mode = s.mode := by unfold setCtl; split <;> rfl
@[simp] theorem setCtl_cfg (c : Ctl) : (setCtl c s).cfg = s.cfg := by unfold setCtl; split <;> rfl
@[simp] theorem setCtl_orbOvf (c : Ctl) : (setCtl c s).orbOvf = s.orbOvf := by unfold setCtl; split <;> rfl
@[simp] theorem setCtl_res (c : Ctl) : (setCtl c s).res = s.res := by unfold setCtl; split <;> rfl
@[simp] theorem setCtl_filt (c : Ctl) : (setCtl c s).filt = s.filt := by unfold setCtl; split <;> rfl
@[simp] theorem setCtl_irb (c : Ctl) : (setCtl c s).irb = s.irb := by unfold setCtl; split <;> rfl
@[simp] theorem setCtl_orb (c : Ctl) : (setCtl c s).orb = s.orb := by unfold setCtl; split <;> rfl
@[simp] theorem setCtl_env (c : Ctl) : (setCtl c s).env = s.env := by unfold setCtl; split <;> rfl
@[simp] theorem setCtl_payload (c : Ctl) : (setCtl c s).payload = s.payload := by unfold setCtl; split <;> rfl
@[simp] theorem setCtl_par (c : Ctl) : (setCtl c s).par = s.par := by unfold setCtl; split <;> rfl
@[simp] theorem setCtl_cmd (c : Ctl) : (setCtl c s).cmd = s.cmd := by unfold setCtl; split <;> rfl
@[simp] theorem setCtl_halt (c : Ctl) : (setCtl c s).halt = s.halt := by unfold setCtl; split <;> rfl
@[simp] theorem setCtl_timer (c : Ctl) (j : TimerId) : (setCtl c s).timer j = s.timer j := by simp [State.timer]
@[simp] theorem setCtl_gen (c : Ctl) (j : GenId) : (setCtl c s).gen j = s.gen j := by cases j <;> simp [State.gen]
@[simp] theorem setCtl_fm (c : Ctl) : (setCtl c s).fm = s.fm := by simp [State.fm]
@[simp] theorem setCtl_state (c : Ctl) : (setCtl c s).state = c := by
  unfold setCtl; split
  · assumption
  · rfl

/-- A write of `state` is traced exactly when it changes it (60_exceptions R265). -/
theorem setCtl_calls (c : Ctl) :
    (setCtl c s).calls = if s.state = c then s.calls else .logTransition s.state c :: s.calls := by
  unfold setCtl; split <;> rfl

/-! ### Calls on generators -/

@[simp] theorem genStart_state (k : GenId) : (genStart k s).state = s.state := by simp [genStart]
@[simp] theorem genStart_tmr (k : GenId) : (genStart k s).tmr = s.tmr := by simp [genStart]
@[simp] theorem genStart_decodeEn (k : GenId) : (genStart k s).decodeEn = s.decodeEn := by simp [genStart]
@[simp] theorem genStart_adcDetEn (k : GenId) : (genStart k s).adcDetEn = s.adcDetEn := by simp [genStart]
@[simp] theorem genStart_mode (k : GenId) : (genStart k s).mode = s.mode := by simp [genStart]
@[simp] theorem genStart_cfg (k : GenId) : (genStart k s).cfg = s.cfg := by simp [genStart]
@[simp] theorem genStart_orbOvf (k : GenId) : (genStart k s).orbOvf = s.orbOvf := by simp [genStart]
@[simp] theorem genStart_res (k : GenId) : (genStart k s).res = s.res := by simp [genStart]
@[simp] theorem genStart_filt (k : GenId) : (genStart k s).filt = s.filt := by simp [genStart]
@[simp] theorem genStart_irb (k : GenId) : (genStart k s).irb = s.irb := by simp [genStart]
@[simp] theorem genStart_orb (k : GenId) : (genStart k s).orb = s.orb := by simp [genStart]
@[simp] theorem genStart_payload (k : GenId) : (genStart k s).payload = s.payload := by simp [genStart]
@[simp] theorem genStart_par (k : GenId) : (genStart k s).par = s.par := by simp [genStart]
@[simp] theorem genStart_cmd (k : GenId) : (genStart k s).cmd = s.cmd := by simp [genStart]
@[simp] theorem genStart_halt (k : GenId) : (genStart k s).halt = s.halt := by simp [genStart]
@[simp] theorem genStart_timer (k : GenId) (j : TimerId) : (genStart k s).timer j = s.timer j := by simp [genStart]
@[simp] theorem genStart_fm (k : GenId) : (genStart k s).fm = s.fm := by simp [genStart]
@[simp] theorem genStart_rx (k : GenId) : (genStart k s).env.rx = s.env.rx := by simp [genStart]
@[simp] theorem genStart_tx (k : GenId) : (genStart k s).env.tx = s.env.tx := by simp [genStart]
@[simp] theorem genStart_sink (k : GenId) : (genStart k s).env.sink = s.env.sink := by simp [genStart]
@[simp] theorem genStart_blankParams (k : GenId) : (genStart k s).env.blankParams = s.env.blankParams := by simp [genStart]

@[simp] theorem genStop_state (k : GenId) : (genStop k s).state = s.state := by simp [genStop]
@[simp] theorem genStop_tmr (k : GenId) : (genStop k s).tmr = s.tmr := by simp [genStop]
@[simp] theorem genStop_decodeEn (k : GenId) : (genStop k s).decodeEn = s.decodeEn := by simp [genStop]
@[simp] theorem genStop_adcDetEn (k : GenId) : (genStop k s).adcDetEn = s.adcDetEn := by simp [genStop]
@[simp] theorem genStop_mode (k : GenId) : (genStop k s).mode = s.mode := by simp [genStop]
@[simp] theorem genStop_cfg (k : GenId) : (genStop k s).cfg = s.cfg := by simp [genStop]
@[simp] theorem genStop_orbOvf (k : GenId) : (genStop k s).orbOvf = s.orbOvf := by simp [genStop]
@[simp] theorem genStop_res (k : GenId) : (genStop k s).res = s.res := by simp [genStop]
@[simp] theorem genStop_filt (k : GenId) : (genStop k s).filt = s.filt := by simp [genStop]
@[simp] theorem genStop_irb (k : GenId) : (genStop k s).irb = s.irb := by simp [genStop]
@[simp] theorem genStop_orb (k : GenId) : (genStop k s).orb = s.orb := by simp [genStop]
@[simp] theorem genStop_payload (k : GenId) : (genStop k s).payload = s.payload := by simp [genStop]
@[simp] theorem genStop_par (k : GenId) : (genStop k s).par = s.par := by simp [genStop]
@[simp] theorem genStop_cmd (k : GenId) : (genStop k s).cmd = s.cmd := by simp [genStop]
@[simp] theorem genStop_halt (k : GenId) : (genStop k s).halt = s.halt := by simp [genStop]
@[simp] theorem genStop_timer (k : GenId) (j : TimerId) : (genStop k s).timer j = s.timer j := by simp [genStop]
@[simp] theorem genStop_fm (k : GenId) : (genStop k s).fm = s.fm := by simp [genStop]
@[simp] theorem genStop_rx (k : GenId) : (genStop k s).env.rx = s.env.rx := by simp [genStop]
@[simp] theorem genStop_tx (k : GenId) : (genStop k s).env.tx = s.env.tx := by simp [genStop]
@[simp] theorem genStop_sink (k : GenId) : (genStop k s).env.sink = s.env.sink := by simp [genStop]
@[simp] theorem genStop_blankParams (k : GenId) : (genStop k s).env.blankParams = s.env.blankParams := by simp [genStop]

@[simp] theorem totoneSetParams_state (p : Payload) : (totoneSetParams p s).state = s.state := by simp [totoneSetParams]
@[simp] theorem totoneSetParams_tmr (p : Payload) : (totoneSetParams p s).tmr = s.tmr := by simp [totoneSetParams]
@[simp] theorem totoneSetParams_decodeEn (p : Payload) : (totoneSetParams p s).decodeEn = s.decodeEn := by simp [totoneSetParams]
@[simp] theorem totoneSetParams_adcDetEn (p : Payload) : (totoneSetParams p s).adcDetEn = s.adcDetEn := by simp [totoneSetParams]
@[simp] theorem totoneSetParams_mode (p : Payload) : (totoneSetParams p s).mode = s.mode := by simp [totoneSetParams]
@[simp] theorem totoneSetParams_cfg (p : Payload) : (totoneSetParams p s).cfg = s.cfg := by simp [totoneSetParams]
@[simp] theorem totoneSetParams_orbOvf (p : Payload) : (totoneSetParams p s).orbOvf = s.orbOvf := by simp [totoneSetParams]
@[simp] theorem totoneSetParams_res (p : Payload) : (totoneSetParams p s).res = s.res := by simp [totoneSetParams]
@[simp] theorem totoneSetParams_filt (p : Payload) : (totoneSetParams p s).filt = s.filt := by simp [totoneSetParams]
@[simp] theorem totoneSetParams_irb (p : Payload) : (totoneSetParams p s).irb = s.irb := by simp [totoneSetParams]
@[simp] theorem totoneSetParams_orb (p : Payload) : (totoneSetParams p s).orb = s.orb := by simp [totoneSetParams]
@[simp] theorem totoneSetParams_payload (p : Payload) : (totoneSetParams p s).payload = s.payload := by simp [totoneSetParams]
@[simp] theorem totoneSetParams_par (p : Payload) : (totoneSetParams p s).par = s.par := by simp [totoneSetParams]
@[simp] theorem totoneSetParams_cmd (p : Payload) : (totoneSetParams p s).cmd = s.cmd := by simp [totoneSetParams]
@[simp] theorem totoneSetParams_halt (p : Payload) : (totoneSetParams p s).halt = s.halt := by simp [totoneSetParams]
@[simp] theorem totoneSetParams_timer (p : Payload) (j : TimerId) : (totoneSetParams p s).timer j = s.timer j := by simp [totoneSetParams]
@[simp] theorem totoneSetParams_fm (p : Payload) : (totoneSetParams p s).fm = s.fm := by simp [totoneSetParams]
@[simp] theorem totoneSetParams_rx (p : Payload) : (totoneSetParams p s).env.rx = s.env.rx := by simp [totoneSetParams]
@[simp] theorem totoneSetParams_tx (p : Payload) : (totoneSetParams p s).env.tx = s.env.tx := by simp [totoneSetParams]
@[simp] theorem totoneSetParams_sink (p : Payload) : (totoneSetParams p s).env.sink = s.env.sink := by simp [totoneSetParams]
@[simp] theorem totoneSetParams_blankParams (p : Payload) : (totoneSetParams p s).env.blankParams = s.env.blankParams := by simp [totoneSetParams]

@[simp] theorem genStart_calls (k : GenId) : (genStart k s).calls = .genStart k :: s.calls := by simp [genStart]
@[simp] theorem genStop_calls (k : GenId) : (genStop k s).calls = .genStop k :: s.calls := by simp [genStop]
@[simp] theorem totoneSetParams_calls (p : Payload) : (totoneSetParams p s).calls = .totoneSetParams p :: s.calls := by
  simp [totoneSetParams]
@[simp] theorem genStart_gen (k j : GenId) :
    (genStart k s).gen j = if j = k then (s.gen k).after k .start else s.gen j := by simp [genStart]
@[simp] theorem genStop_gen (k j : GenId) :
    (genStop k s).gen j = if j = k then (s.gen k).afterStop k else s.gen j := by simp [genStop]
@[simp] theorem totoneSetParams_gen (p : Payload) (j : GenId) :
    (totoneSetParams p s).gen j = if j = .totone then (s.gen .totone).after .totone (.setParams p) else s.gen j := by
  simp [totoneSetParams]

@[simp] theorem genIsRunning_fst (k : GenId) : (genIsRunning k s).1 = (s.gen k).running := rfl
@[simp] theorem genIsRunning_snd (k : GenId) :
    (genIsRunning k s).2 = s.record (.genIsRunning k (s.gen k).running) := rfl
@[simp] theorem genIsWanted_fst (k : GenId) : (genIsWanted k s).1 = (s.gen k).wanted := rfl
@[simp] theorem genIsWanted_snd (k : GenId) : (genIsWanted k s).2 = s.record (.genIsWanted k (s.gen k).wanted) := rfl
@[simp] theorem genPull_fst (k : GenId) (p : Pull) : (genPull k p s).1 = (s.gen k).pulled k p := rfl
@[simp] theorem genSetParams_fst (k : GenId) (p : Payload) :
    (genSetParams k p s).1 = ((s.gen k).reply k (.setParams p)).code := rfl

@[simp] theorem genPull_state (k : GenId) (p : Pull) : (genPull k p s).2.state = s.state := by simp [genPull]
@[simp] theorem genPull_tmr (k : GenId) (p : Pull) : (genPull k p s).2.tmr = s.tmr := by simp [genPull]
@[simp] theorem genPull_decodeEn (k : GenId) (p : Pull) : (genPull k p s).2.decodeEn = s.decodeEn := by simp [genPull]
@[simp] theorem genPull_adcDetEn (k : GenId) (p : Pull) : (genPull k p s).2.adcDetEn = s.adcDetEn := by simp [genPull]
@[simp] theorem genPull_mode (k : GenId) (p : Pull) : (genPull k p s).2.mode = s.mode := by simp [genPull]
@[simp] theorem genPull_cfg (k : GenId) (p : Pull) : (genPull k p s).2.cfg = s.cfg := by simp [genPull]
@[simp] theorem genPull_orbOvf (k : GenId) (p : Pull) : (genPull k p s).2.orbOvf = s.orbOvf := by simp [genPull]
@[simp] theorem genPull_res (k : GenId) (p : Pull) : (genPull k p s).2.res = s.res := by simp [genPull]
@[simp] theorem genPull_filt (k : GenId) (p : Pull) : (genPull k p s).2.filt = s.filt := by simp [genPull]
@[simp] theorem genPull_irb (k : GenId) (p : Pull) : (genPull k p s).2.irb = s.irb := by simp [genPull]
@[simp] theorem genPull_orb (k : GenId) (p : Pull) : (genPull k p s).2.orb = s.orb := by simp [genPull]
@[simp] theorem genPull_payload (k : GenId) (p : Pull) : (genPull k p s).2.payload = s.payload := by simp [genPull]
@[simp] theorem genPull_par (k : GenId) (p : Pull) : (genPull k p s).2.par = s.par := by simp [genPull]
@[simp] theorem genPull_cmd (k : GenId) (p : Pull) : (genPull k p s).2.cmd = s.cmd := by simp [genPull]
@[simp] theorem genPull_halt (k : GenId) (p : Pull) : (genPull k p s).2.halt = s.halt := by simp [genPull]
@[simp] theorem genPull_timer (k : GenId) (p : Pull) (j : TimerId) : (genPull k p s).2.timer j = s.timer j := by simp [genPull]
@[simp] theorem genPull_fm (k : GenId) (p : Pull) : (genPull k p s).2.fm = s.fm := by simp [genPull]
@[simp] theorem genPull_rx (k : GenId) (p : Pull) : (genPull k p s).2.env.rx = s.env.rx := by simp [genPull]
@[simp] theorem genPull_tx (k : GenId) (p : Pull) : (genPull k p s).2.env.tx = s.env.tx := by simp [genPull]
@[simp] theorem genPull_sink (k : GenId) (p : Pull) : (genPull k p s).2.env.sink = s.env.sink := by simp [genPull]
@[simp] theorem genPull_blankParams (k : GenId) (p : Pull) : (genPull k p s).2.env.blankParams = s.env.blankParams := by simp [genPull]

@[simp] theorem genSetParams_state (k : GenId) (p : Payload) : (genSetParams k p s).2.state = s.state := by simp [genSetParams]
@[simp] theorem genSetParams_tmr (k : GenId) (p : Payload) : (genSetParams k p s).2.tmr = s.tmr := by simp [genSetParams]
@[simp] theorem genSetParams_decodeEn (k : GenId) (p : Payload) : (genSetParams k p s).2.decodeEn = s.decodeEn := by simp [genSetParams]
@[simp] theorem genSetParams_adcDetEn (k : GenId) (p : Payload) : (genSetParams k p s).2.adcDetEn = s.adcDetEn := by simp [genSetParams]
@[simp] theorem genSetParams_mode (k : GenId) (p : Payload) : (genSetParams k p s).2.mode = s.mode := by simp [genSetParams]
@[simp] theorem genSetParams_cfg (k : GenId) (p : Payload) : (genSetParams k p s).2.cfg = s.cfg := by simp [genSetParams]
@[simp] theorem genSetParams_orbOvf (k : GenId) (p : Payload) : (genSetParams k p s).2.orbOvf = s.orbOvf := by simp [genSetParams]
@[simp] theorem genSetParams_res (k : GenId) (p : Payload) : (genSetParams k p s).2.res = s.res := by simp [genSetParams]
@[simp] theorem genSetParams_filt (k : GenId) (p : Payload) : (genSetParams k p s).2.filt = s.filt := by simp [genSetParams]
@[simp] theorem genSetParams_irb (k : GenId) (p : Payload) : (genSetParams k p s).2.irb = s.irb := by simp [genSetParams]
@[simp] theorem genSetParams_orb (k : GenId) (p : Payload) : (genSetParams k p s).2.orb = s.orb := by simp [genSetParams]
@[simp] theorem genSetParams_payload (k : GenId) (p : Payload) : (genSetParams k p s).2.payload = s.payload := by simp [genSetParams]
@[simp] theorem genSetParams_par (k : GenId) (p : Payload) : (genSetParams k p s).2.par = s.par := by simp [genSetParams]
@[simp] theorem genSetParams_cmd (k : GenId) (p : Payload) : (genSetParams k p s).2.cmd = s.cmd := by simp [genSetParams]
@[simp] theorem genSetParams_halt (k : GenId) (p : Payload) : (genSetParams k p s).2.halt = s.halt := by simp [genSetParams]
@[simp] theorem genSetParams_timer (k : GenId) (p : Payload) (j : TimerId) : (genSetParams k p s).2.timer j = s.timer j := by simp [genSetParams]
@[simp] theorem genSetParams_fm (k : GenId) (p : Payload) : (genSetParams k p s).2.fm = s.fm := by simp [genSetParams]
@[simp] theorem genSetParams_rx (k : GenId) (p : Payload) : (genSetParams k p s).2.env.rx = s.env.rx := by simp [genSetParams]
@[simp] theorem genSetParams_tx (k : GenId) (p : Payload) : (genSetParams k p s).2.env.tx = s.env.tx := by simp [genSetParams]
@[simp] theorem genSetParams_sink (k : GenId) (p : Payload) : (genSetParams k p s).2.env.sink = s.env.sink := by simp [genSetParams]
@[simp] theorem genSetParams_blankParams (k : GenId) (p : Payload) : (genSetParams k p s).2.env.blankParams = s.env.blankParams := by simp [genSetParams]

@[simp] theorem genPull_gen (k j : GenId) (p : Pull) :
    (genPull k p s).2.gen j = if j = k then (s.gen k).after k (.pull p) else s.gen j := by simp [genPull]
@[simp] theorem genPull_calls (k : GenId) (p : Pull) :
    (genPull k p s).2.calls = .genPull k p ((s.gen k).pulled k p) :: s.calls := by simp [genPull]
@[simp] theorem genSetParams_gen (k j : GenId) (p : Payload) :
    (genSetParams k p s).2.gen j = if j = k then (s.gen k).after k (.setParams p) else s.gen j := by simp [genSetParams]
@[simp] theorem genSetParams_calls (k : GenId) (p : Payload) :
    (genSetParams k p s).2.calls = .genSetParams k p ((s.gen k).reply k (.setParams p)).code :: s.calls := by
  simp [genSetParams]

/-- A pull on a generator that is not running returns silence (60_exceptions R266 A1). -/
theorem pulled_of_not_running (k : GenId) (p : Pull) (g : Gen) (h : g.running = false) : g.pulled k p = 0 := by
  simp [Gen.pulled, h]

/-- After `stop()` a generator is marked stopped (A5). -/
theorem afterStop_stopped (k : GenId) (g : Gen) : (g.afterStop k).stopped = true := rfl

/-- After `stop()` a generator is not running, at once (60_exceptions R266 A2). -/
theorem afterStop_running (k : GenId) (g : Gen) : (g.afterStop k).running = false := rfl

/-- Stopping twice is stopping once (60_exceptions R266 A5). -/
theorem afterStop_afterStop (k : GenId) (g : Gen) : (g.afterStop k).afterStop k = g.afterStop k := rfl

/-! ### The other collaborators -/

@[simp] theorem rxProcess_state (x : Sample) : (rxProcess x s).2.state = s.state := rfl
@[simp] theorem rxProcess_tmr (x : Sample) : (rxProcess x s).2.tmr = s.tmr := rfl
@[simp] theorem rxProcess_decodeEn (x : Sample) : (rxProcess x s).2.decodeEn = s.decodeEn := rfl
@[simp] theorem rxProcess_adcDetEn (x : Sample) : (rxProcess x s).2.adcDetEn = s.adcDetEn := rfl
@[simp] theorem rxProcess_mode (x : Sample) : (rxProcess x s).2.mode = s.mode := rfl
@[simp] theorem rxProcess_cfg (x : Sample) : (rxProcess x s).2.cfg = s.cfg := rfl
@[simp] theorem rxProcess_orbOvf (x : Sample) : (rxProcess x s).2.orbOvf = s.orbOvf := rfl
@[simp] theorem rxProcess_res (x : Sample) : (rxProcess x s).2.res = s.res := rfl
@[simp] theorem rxProcess_filt (x : Sample) : (rxProcess x s).2.filt = s.filt := rfl
@[simp] theorem rxProcess_irb (x : Sample) : (rxProcess x s).2.irb = s.irb := rfl
@[simp] theorem rxProcess_orb (x : Sample) : (rxProcess x s).2.orb = s.orb := rfl
@[simp] theorem rxProcess_payload (x : Sample) : (rxProcess x s).2.payload = s.payload := rfl
@[simp] theorem rxProcess_par (x : Sample) : (rxProcess x s).2.par = s.par := rfl
@[simp] theorem rxProcess_cmd (x : Sample) : (rxProcess x s).2.cmd = s.cmd := rfl
@[simp] theorem rxProcess_halt (x : Sample) : (rxProcess x s).2.halt = s.halt := rfl
@[simp] theorem rxProcess_timer (x : Sample) (j : TimerId) : (rxProcess x s).2.timer j = s.timer j := rfl
@[simp] theorem rxProcess_gen (x : Sample) (j : GenId) : (rxProcess x s).2.gen j = s.gen j := by cases j <;> rfl
@[simp] theorem rxProcess_fm (x : Sample) : (rxProcess x s).2.fm = s.fm := rfl
@[simp] theorem rxProcess_tx (x : Sample) : (rxProcess x s).2.env.tx = s.env.tx := rfl
@[simp] theorem rxProcess_sink (x : Sample) : (rxProcess x s).2.env.sink = s.env.sink := rfl
@[simp] theorem rxProcess_blankParams (x : Sample) : (rxProcess x s).2.env.blankParams = s.env.blankParams := rfl

@[simp] theorem rxReset_state : (rxReset s).state = s.state := rfl
@[simp] theorem rxReset_tmr : (rxReset s).tmr = s.tmr := rfl
@[simp] theorem rxReset_decodeEn : (rxReset s).decodeEn = s.decodeEn := rfl
@[simp] theorem rxReset_adcDetEn : (rxReset s).adcDetEn = s.adcDetEn := rfl
@[simp] theorem rxReset_mode : (rxReset s).mode = s.mode := rfl
@[simp] theorem rxReset_cfg : (rxReset s).cfg = s.cfg := rfl
@[simp] theorem rxReset_orbOvf : (rxReset s).orbOvf = s.orbOvf := rfl
@[simp] theorem rxReset_res : (rxReset s).res = s.res := rfl
@[simp] theorem rxReset_filt : (rxReset s).filt = s.filt := rfl
@[simp] theorem rxReset_irb : (rxReset s).irb = s.irb := rfl
@[simp] theorem rxReset_orb : (rxReset s).orb = s.orb := rfl
@[simp] theorem rxReset_payload : (rxReset s).payload = s.payload := rfl
@[simp] theorem rxReset_par : (rxReset s).par = s.par := rfl
@[simp] theorem rxReset_cmd : (rxReset s).cmd = s.cmd := rfl
@[simp] theorem rxReset_halt : (rxReset s).halt = s.halt := rfl
@[simp] theorem rxReset_timer (j : TimerId) : (rxReset s).timer j = s.timer j := rfl
@[simp] theorem rxReset_gen (j : GenId) : (rxReset s).gen j = s.gen j := by cases j <;> rfl
@[simp] theorem rxReset_fm : (rxReset s).fm = s.fm := rfl
@[simp] theorem rxReset_tx : (rxReset s).env.tx = s.env.tx := rfl
@[simp] theorem rxReset_sink : (rxReset s).env.sink = s.env.sink := rfl
@[simp] theorem rxReset_blankParams : (rxReset s).env.blankParams = s.env.blankParams := rfl

@[simp] theorem rxSetParams_state (p : Payload) : (rxSetParams p s).2.state = s.state := rfl
@[simp] theorem rxSetParams_tmr (p : Payload) : (rxSetParams p s).2.tmr = s.tmr := rfl
@[simp] theorem rxSetParams_decodeEn (p : Payload) : (rxSetParams p s).2.decodeEn = s.decodeEn := rfl
@[simp] theorem rxSetParams_adcDetEn (p : Payload) : (rxSetParams p s).2.adcDetEn = s.adcDetEn := rfl
@[simp] theorem rxSetParams_mode (p : Payload) : (rxSetParams p s).2.mode = s.mode := rfl
@[simp] theorem rxSetParams_cfg (p : Payload) : (rxSetParams p s).2.cfg = s.cfg := rfl
@[simp] theorem rxSetParams_orbOvf (p : Payload) : (rxSetParams p s).2.orbOvf = s.orbOvf := rfl
@[simp] theorem rxSetParams_res (p : Payload) : (rxSetParams p s).2.res = s.res := rfl
@[simp] theorem rxSetParams_filt (p : Payload) : (rxSetParams p s).2.filt = s.filt := rfl
@[simp] theorem rxSetParams_irb (p : Payload) : (rxSetParams p s).2.irb = s.irb := rfl
@[simp] theorem rxSetParams_orb (p : Payload) : (rxSetParams p s).2.orb = s.orb := rfl
@[simp] theorem rxSetParams_payload (p : Payload) : (rxSetParams p s).2.payload = s.payload := rfl
@[simp] theorem rxSetParams_par (p : Payload) : (rxSetParams p s).2.par = s.par := rfl
@[simp] theorem rxSetParams_cmd (p : Payload) : (rxSetParams p s).2.cmd = s.cmd := rfl
@[simp] theorem rxSetParams_halt (p : Payload) : (rxSetParams p s).2.halt = s.halt := rfl
@[simp] theorem rxSetParams_timer (p : Payload) (j : TimerId) : (rxSetParams p s).2.timer j = s.timer j := rfl
@[simp] theorem rxSetParams_gen (p : Payload) (j : GenId) : (rxSetParams p s).2.gen j = s.gen j := by cases j <;> rfl
@[simp] theorem rxSetParams_fm (p : Payload) : (rxSetParams p s).2.fm = s.fm := rfl
@[simp] theorem rxSetParams_tx (p : Payload) : (rxSetParams p s).2.env.tx = s.env.tx := rfl
@[simp] theorem rxSetParams_sink (p : Payload) : (rxSetParams p s).2.env.sink = s.env.sink := rfl
@[simp] theorem rxSetParams_blankParams (p : Payload) : (rxSetParams p s).2.env.blankParams = s.env.blankParams := rfl

@[simp] theorem txGetAudio_state : (txGetAudio s).2.state = s.state := rfl
@[simp] theorem txGetAudio_tmr : (txGetAudio s).2.tmr = s.tmr := rfl
@[simp] theorem txGetAudio_decodeEn : (txGetAudio s).2.decodeEn = s.decodeEn := rfl
@[simp] theorem txGetAudio_adcDetEn : (txGetAudio s).2.adcDetEn = s.adcDetEn := rfl
@[simp] theorem txGetAudio_mode : (txGetAudio s).2.mode = s.mode := rfl
@[simp] theorem txGetAudio_cfg : (txGetAudio s).2.cfg = s.cfg := rfl
@[simp] theorem txGetAudio_orbOvf : (txGetAudio s).2.orbOvf = s.orbOvf := rfl
@[simp] theorem txGetAudio_res : (txGetAudio s).2.res = s.res := rfl
@[simp] theorem txGetAudio_filt : (txGetAudio s).2.filt = s.filt := rfl
@[simp] theorem txGetAudio_irb : (txGetAudio s).2.irb = s.irb := rfl
@[simp] theorem txGetAudio_orb : (txGetAudio s).2.orb = s.orb := rfl
@[simp] theorem txGetAudio_payload : (txGetAudio s).2.payload = s.payload := rfl
@[simp] theorem txGetAudio_par : (txGetAudio s).2.par = s.par := rfl
@[simp] theorem txGetAudio_cmd : (txGetAudio s).2.cmd = s.cmd := rfl
@[simp] theorem txGetAudio_halt : (txGetAudio s).2.halt = s.halt := rfl
@[simp] theorem txGetAudio_timer (j : TimerId) : (txGetAudio s).2.timer j = s.timer j := rfl
@[simp] theorem txGetAudio_gen (j : GenId) : (txGetAudio s).2.gen j = s.gen j := by cases j <;> rfl
@[simp] theorem txGetAudio_fm : (txGetAudio s).2.fm = s.fm := rfl
@[simp] theorem txGetAudio_rx : (txGetAudio s).2.env.rx = s.env.rx := rfl
@[simp] theorem txGetAudio_sink : (txGetAudio s).2.env.sink = s.env.sink := rfl
@[simp] theorem txGetAudio_blankParams : (txGetAudio s).2.env.blankParams = s.env.blankParams := rfl

@[simp] theorem txSetParams_state (p : Payload) : (txSetParams p s).2.state = s.state := rfl
@[simp] theorem txSetParams_tmr (p : Payload) : (txSetParams p s).2.tmr = s.tmr := rfl
@[simp] theorem txSetParams_decodeEn (p : Payload) : (txSetParams p s).2.decodeEn = s.decodeEn := rfl
@[simp] theorem txSetParams_adcDetEn (p : Payload) : (txSetParams p s).2.adcDetEn = s.adcDetEn := rfl
@[simp] theorem txSetParams_mode (p : Payload) : (txSetParams p s).2.mode = s.mode := rfl
@[simp] theorem txSetParams_cfg (p : Payload) : (txSetParams p s).2.cfg = s.cfg := rfl
@[simp] theorem txSetParams_orbOvf (p : Payload) : (txSetParams p s).2.orbOvf = s.orbOvf := rfl
@[simp] theorem txSetParams_res (p : Payload) : (txSetParams p s).2.res = s.res := rfl
@[simp] theorem txSetParams_filt (p : Payload) : (txSetParams p s).2.filt = s.filt := rfl
@[simp] theorem txSetParams_irb (p : Payload) : (txSetParams p s).2.irb = s.irb := rfl
@[simp] theorem txSetParams_orb (p : Payload) : (txSetParams p s).2.orb = s.orb := rfl
@[simp] theorem txSetParams_payload (p : Payload) : (txSetParams p s).2.payload = s.payload := rfl
@[simp] theorem txSetParams_par (p : Payload) : (txSetParams p s).2.par = s.par := rfl
@[simp] theorem txSetParams_cmd (p : Payload) : (txSetParams p s).2.cmd = s.cmd := rfl
@[simp] theorem txSetParams_halt (p : Payload) : (txSetParams p s).2.halt = s.halt := rfl
@[simp] theorem txSetParams_timer (p : Payload) (j : TimerId) : (txSetParams p s).2.timer j = s.timer j := rfl
@[simp] theorem txSetParams_gen (p : Payload) (j : GenId) : (txSetParams p s).2.gen j = s.gen j := by cases j <;> rfl
@[simp] theorem txSetParams_fm (p : Payload) : (txSetParams p s).2.fm = s.fm := rfl
@[simp] theorem txSetParams_rx (p : Payload) : (txSetParams p s).2.env.rx = s.env.rx := rfl
@[simp] theorem txSetParams_sink (p : Payload) : (txSetParams p s).2.env.sink = s.env.sink := rfl
@[simp] theorem txSetParams_blankParams (p : Payload) : (txSetParams p s).2.env.blankParams = s.env.blankParams := rfl

@[simp] theorem blankProcess_state (x : Sample) : (blankProcess x s).2.state = s.state := rfl
@[simp] theorem blankProcess_tmr (x : Sample) : (blankProcess x s).2.tmr = s.tmr := rfl
@[simp] theorem blankProcess_decodeEn (x : Sample) : (blankProcess x s).2.decodeEn = s.decodeEn := rfl
@[simp] theorem blankProcess_adcDetEn (x : Sample) : (blankProcess x s).2.adcDetEn = s.adcDetEn := rfl
@[simp] theorem blankProcess_mode (x : Sample) : (blankProcess x s).2.mode = s.mode := rfl
@[simp] theorem blankProcess_cfg (x : Sample) : (blankProcess x s).2.cfg = s.cfg := rfl
@[simp] theorem blankProcess_orbOvf (x : Sample) : (blankProcess x s).2.orbOvf = s.orbOvf := rfl
@[simp] theorem blankProcess_res (x : Sample) : (blankProcess x s).2.res = s.res := rfl
@[simp] theorem blankProcess_irb (x : Sample) : (blankProcess x s).2.irb = s.irb := rfl
@[simp] theorem blankProcess_orb (x : Sample) : (blankProcess x s).2.orb = s.orb := rfl
@[simp] theorem blankProcess_payload (x : Sample) : (blankProcess x s).2.payload = s.payload := rfl
@[simp] theorem blankProcess_par (x : Sample) : (blankProcess x s).2.par = s.par := rfl
@[simp] theorem blankProcess_cmd (x : Sample) : (blankProcess x s).2.cmd = s.cmd := rfl
@[simp] theorem blankProcess_halt (x : Sample) : (blankProcess x s).2.halt = s.halt := rfl
@[simp] theorem blankProcess_timer (x : Sample) (j : TimerId) : (blankProcess x s).2.timer j = s.timer j := rfl
@[simp] theorem blankProcess_gen (x : Sample) (j : GenId) : (blankProcess x s).2.gen j = s.gen j := by cases j <;> rfl
@[simp] theorem blankProcess_fm (x : Sample) : (blankProcess x s).2.fm = s.fm := rfl
@[simp] theorem blankProcess_rx (x : Sample) : (blankProcess x s).2.env.rx = s.env.rx := rfl
@[simp] theorem blankProcess_tx (x : Sample) : (blankProcess x s).2.env.tx = s.env.tx := rfl
@[simp] theorem blankProcess_sink (x : Sample) : (blankProcess x s).2.env.sink = s.env.sink := rfl
@[simp] theorem blankProcess_blankParams (x : Sample) : (blankProcess x s).2.env.blankParams = s.env.blankParams := rfl

@[simp] theorem blankSetParams_state (p : Payload) : (blankSetParams p s).state = s.state := rfl
@[simp] theorem blankSetParams_tmr (p : Payload) : (blankSetParams p s).tmr = s.tmr := rfl
@[simp] theorem blankSetParams_decodeEn (p : Payload) : (blankSetParams p s).decodeEn = s.decodeEn := rfl
@[simp] theorem blankSetParams_adcDetEn (p : Payload) : (blankSetParams p s).adcDetEn = s.adcDetEn := rfl
@[simp] theorem blankSetParams_mode (p : Payload) : (blankSetParams p s).mode = s.mode := rfl
@[simp] theorem blankSetParams_cfg (p : Payload) : (blankSetParams p s).cfg = s.cfg := rfl
@[simp] theorem blankSetParams_orbOvf (p : Payload) : (blankSetParams p s).orbOvf = s.orbOvf := rfl
@[simp] theorem blankSetParams_res (p : Payload) : (blankSetParams p s).res = s.res := rfl
@[simp] theorem blankSetParams_filt (p : Payload) : (blankSetParams p s).filt = s.filt := rfl
@[simp] theorem blankSetParams_irb (p : Payload) : (blankSetParams p s).irb = s.irb := rfl
@[simp] theorem blankSetParams_orb (p : Payload) : (blankSetParams p s).orb = s.orb := rfl
@[simp] theorem blankSetParams_payload (p : Payload) : (blankSetParams p s).payload = s.payload := rfl
@[simp] theorem blankSetParams_par (p : Payload) : (blankSetParams p s).par = s.par := rfl
@[simp] theorem blankSetParams_cmd (p : Payload) : (blankSetParams p s).cmd = s.cmd := rfl
@[simp] theorem blankSetParams_halt (p : Payload) : (blankSetParams p s).halt = s.halt := rfl
@[simp] theorem blankSetParams_timer (p : Payload) (j : TimerId) : (blankSetParams p s).timer j = s.timer j := rfl
@[simp] theorem blankSetParams_gen (p : Payload) (j : GenId) : (blankSetParams p s).gen j = s.gen j := by cases j <;> rfl
@[simp] theorem blankSetParams_fm (p : Payload) : (blankSetParams p s).fm = s.fm := rfl
@[simp] theorem blankSetParams_rx (p : Payload) : (blankSetParams p s).env.rx = s.env.rx := rfl
@[simp] theorem blankSetParams_tx (p : Payload) : (blankSetParams p s).env.tx = s.env.tx := rfl
@[simp] theorem blankSetParams_sink (p : Payload) : (blankSetParams p s).env.sink = s.env.sink := rfl

@[simp] theorem lpf1Filter_state (y : Sample) : (lpf1Filter y s).2.state = s.state := rfl
@[simp] theorem lpf1Filter_tmr (y : Sample) : (lpf1Filter y s).2.tmr = s.tmr := rfl
@[simp] theorem lpf1Filter_decodeEn (y : Sample) : (lpf1Filter y s).2.decodeEn = s.decodeEn := rfl
@[simp] theorem lpf1Filter_adcDetEn (y : Sample) : (lpf1Filter y s).2.adcDetEn = s.adcDetEn := rfl
@[simp] theorem lpf1Filter_mode (y : Sample) : (lpf1Filter y s).2.mode = s.mode := rfl
@[simp] theorem lpf1Filter_cfg (y : Sample) : (lpf1Filter y s).2.cfg = s.cfg := rfl
@[simp] theorem lpf1Filter_orbOvf (y : Sample) : (lpf1Filter y s).2.orbOvf = s.orbOvf := rfl
@[simp] theorem lpf1Filter_res (y : Sample) : (lpf1Filter y s).2.res = s.res := rfl
@[simp] theorem lpf1Filter_irb (y : Sample) : (lpf1Filter y s).2.irb = s.irb := rfl
@[simp] theorem lpf1Filter_orb (y : Sample) : (lpf1Filter y s).2.orb = s.orb := rfl
@[simp] theorem lpf1Filter_payload (y : Sample) : (lpf1Filter y s).2.payload = s.payload := rfl
@[simp] theorem lpf1Filter_par (y : Sample) : (lpf1Filter y s).2.par = s.par := rfl
@[simp] theorem lpf1Filter_cmd (y : Sample) : (lpf1Filter y s).2.cmd = s.cmd := rfl
@[simp] theorem lpf1Filter_halt (y : Sample) : (lpf1Filter y s).2.halt = s.halt := rfl
@[simp] theorem lpf1Filter_timer (y : Sample) (j : TimerId) : (lpf1Filter y s).2.timer j = s.timer j := rfl
@[simp] theorem lpf1Filter_gen (y : Sample) (j : GenId) : (lpf1Filter y s).2.gen j = s.gen j := by cases j <;> rfl
@[simp] theorem lpf1Filter_fm (y : Sample) : (lpf1Filter y s).2.fm = s.fm := rfl
@[simp] theorem lpf1Filter_rx (y : Sample) : (lpf1Filter y s).2.env.rx = s.env.rx := rfl
@[simp] theorem lpf1Filter_tx (y : Sample) : (lpf1Filter y s).2.env.tx = s.env.tx := rfl
@[simp] theorem lpf1Filter_sink (y : Sample) : (lpf1Filter y s).2.env.sink = s.env.sink := rfl
@[simp] theorem lpf1Filter_blankParams (y : Sample) : (lpf1Filter y s).2.env.blankParams = s.env.blankParams := rfl

@[simp] theorem lpf2Filter_state (y : Sample) : (lpf2Filter y s).2.state = s.state := rfl
@[simp] theorem lpf2Filter_tmr (y : Sample) : (lpf2Filter y s).2.tmr = s.tmr := rfl
@[simp] theorem lpf2Filter_decodeEn (y : Sample) : (lpf2Filter y s).2.decodeEn = s.decodeEn := rfl
@[simp] theorem lpf2Filter_adcDetEn (y : Sample) : (lpf2Filter y s).2.adcDetEn = s.adcDetEn := rfl
@[simp] theorem lpf2Filter_mode (y : Sample) : (lpf2Filter y s).2.mode = s.mode := rfl
@[simp] theorem lpf2Filter_cfg (y : Sample) : (lpf2Filter y s).2.cfg = s.cfg := rfl
@[simp] theorem lpf2Filter_orbOvf (y : Sample) : (lpf2Filter y s).2.orbOvf = s.orbOvf := rfl
@[simp] theorem lpf2Filter_res (y : Sample) : (lpf2Filter y s).2.res = s.res := rfl
@[simp] theorem lpf2Filter_irb (y : Sample) : (lpf2Filter y s).2.irb = s.irb := rfl
@[simp] theorem lpf2Filter_orb (y : Sample) : (lpf2Filter y s).2.orb = s.orb := rfl
@[simp] theorem lpf2Filter_payload (y : Sample) : (lpf2Filter y s).2.payload = s.payload := rfl
@[simp] theorem lpf2Filter_par (y : Sample) : (lpf2Filter y s).2.par = s.par := rfl
@[simp] theorem lpf2Filter_cmd (y : Sample) : (lpf2Filter y s).2.cmd = s.cmd := rfl
@[simp] theorem lpf2Filter_halt (y : Sample) : (lpf2Filter y s).2.halt = s.halt := rfl
@[simp] theorem lpf2Filter_timer (y : Sample) (j : TimerId) : (lpf2Filter y s).2.timer j = s.timer j := rfl
@[simp] theorem lpf2Filter_gen (y : Sample) (j : GenId) : (lpf2Filter y s).2.gen j = s.gen j := by cases j <;> rfl
@[simp] theorem lpf2Filter_fm (y : Sample) : (lpf2Filter y s).2.fm = s.fm := rfl
@[simp] theorem lpf2Filter_rx (y : Sample) : (lpf2Filter y s).2.env.rx = s.env.rx := rfl
@[simp] theorem lpf2Filter_tx (y : Sample) : (lpf2Filter y s).2.env.tx = s.env.tx := rfl
@[simp] theorem lpf2Filter_sink (y : Sample) : (lpf2Filter y s).2.env.sink = s.env.sink := rfl
@[simp] theorem lpf2Filter_blankParams (y : Sample) : (lpf2Filter y s).2.env.blankParams = s.env.blankParams := rfl

@[simp] theorem lpf3Filter_state (y : Sample) : (lpf3Filter y s).2.state = s.state := rfl
@[simp] theorem lpf3Filter_tmr (y : Sample) : (lpf3Filter y s).2.tmr = s.tmr := rfl
@[simp] theorem lpf3Filter_decodeEn (y : Sample) : (lpf3Filter y s).2.decodeEn = s.decodeEn := rfl
@[simp] theorem lpf3Filter_adcDetEn (y : Sample) : (lpf3Filter y s).2.adcDetEn = s.adcDetEn := rfl
@[simp] theorem lpf3Filter_mode (y : Sample) : (lpf3Filter y s).2.mode = s.mode := rfl
@[simp] theorem lpf3Filter_cfg (y : Sample) : (lpf3Filter y s).2.cfg = s.cfg := rfl
@[simp] theorem lpf3Filter_orbOvf (y : Sample) : (lpf3Filter y s).2.orbOvf = s.orbOvf := rfl
@[simp] theorem lpf3Filter_res (y : Sample) : (lpf3Filter y s).2.res = s.res := rfl
@[simp] theorem lpf3Filter_irb (y : Sample) : (lpf3Filter y s).2.irb = s.irb := rfl
@[simp] theorem lpf3Filter_orb (y : Sample) : (lpf3Filter y s).2.orb = s.orb := rfl
@[simp] theorem lpf3Filter_payload (y : Sample) : (lpf3Filter y s).2.payload = s.payload := rfl
@[simp] theorem lpf3Filter_par (y : Sample) : (lpf3Filter y s).2.par = s.par := rfl
@[simp] theorem lpf3Filter_cmd (y : Sample) : (lpf3Filter y s).2.cmd = s.cmd := rfl
@[simp] theorem lpf3Filter_halt (y : Sample) : (lpf3Filter y s).2.halt = s.halt := rfl
@[simp] theorem lpf3Filter_timer (y : Sample) (j : TimerId) : (lpf3Filter y s).2.timer j = s.timer j := rfl
@[simp] theorem lpf3Filter_gen (y : Sample) (j : GenId) : (lpf3Filter y s).2.gen j = s.gen j := by cases j <;> rfl
@[simp] theorem lpf3Filter_fm (y : Sample) : (lpf3Filter y s).2.fm = s.fm := rfl
@[simp] theorem lpf3Filter_rx (y : Sample) : (lpf3Filter y s).2.env.rx = s.env.rx := rfl
@[simp] theorem lpf3Filter_tx (y : Sample) : (lpf3Filter y s).2.env.tx = s.env.tx := rfl
@[simp] theorem lpf3Filter_sink (y : Sample) : (lpf3Filter y s).2.env.sink = s.env.sink := rfl
@[simp] theorem lpf3Filter_blankParams (y : Sample) : (lpf3Filter y s).2.env.blankParams = s.env.blankParams := rfl

@[simp] theorem sinkSpace_state : (sinkSpace s).2.state = s.state := rfl
@[simp] theorem sinkSpace_tmr : (sinkSpace s).2.tmr = s.tmr := rfl
@[simp] theorem sinkSpace_decodeEn : (sinkSpace s).2.decodeEn = s.decodeEn := rfl
@[simp] theorem sinkSpace_adcDetEn : (sinkSpace s).2.adcDetEn = s.adcDetEn := rfl
@[simp] theorem sinkSpace_mode : (sinkSpace s).2.mode = s.mode := rfl
@[simp] theorem sinkSpace_cfg : (sinkSpace s).2.cfg = s.cfg := rfl
@[simp] theorem sinkSpace_orbOvf : (sinkSpace s).2.orbOvf = s.orbOvf := rfl
@[simp] theorem sinkSpace_res : (sinkSpace s).2.res = s.res := rfl
@[simp] theorem sinkSpace_filt : (sinkSpace s).2.filt = s.filt := rfl
@[simp] theorem sinkSpace_irb : (sinkSpace s).2.irb = s.irb := rfl
@[simp] theorem sinkSpace_orb : (sinkSpace s).2.orb = s.orb := rfl
@[simp] theorem sinkSpace_payload : (sinkSpace s).2.payload = s.payload := rfl
@[simp] theorem sinkSpace_par : (sinkSpace s).2.par = s.par := rfl
@[simp] theorem sinkSpace_cmd : (sinkSpace s).2.cmd = s.cmd := rfl
@[simp] theorem sinkSpace_halt : (sinkSpace s).2.halt = s.halt := rfl
@[simp] theorem sinkSpace_timer (j : TimerId) : (sinkSpace s).2.timer j = s.timer j := rfl
@[simp] theorem sinkSpace_gen (j : GenId) : (sinkSpace s).2.gen j = s.gen j := by cases j <;> rfl
@[simp] theorem sinkSpace_fm : (sinkSpace s).2.fm = s.fm := rfl
@[simp] theorem sinkSpace_rx : (sinkSpace s).2.env.rx = s.env.rx := rfl
@[simp] theorem sinkSpace_tx : (sinkSpace s).2.env.tx = s.env.tx := rfl
@[simp] theorem sinkSpace_blankParams : (sinkSpace s).2.env.blankParams = s.env.blankParams := rfl

@[simp] theorem sinkWrite_state (tag : Nat) (v : Sample) : (sinkWrite tag v s).state = s.state := rfl
@[simp] theorem sinkWrite_tmr (tag : Nat) (v : Sample) : (sinkWrite tag v s).tmr = s.tmr := rfl
@[simp] theorem sinkWrite_decodeEn (tag : Nat) (v : Sample) : (sinkWrite tag v s).decodeEn = s.decodeEn := rfl
@[simp] theorem sinkWrite_adcDetEn (tag : Nat) (v : Sample) : (sinkWrite tag v s).adcDetEn = s.adcDetEn := rfl
@[simp] theorem sinkWrite_mode (tag : Nat) (v : Sample) : (sinkWrite tag v s).mode = s.mode := rfl
@[simp] theorem sinkWrite_cfg (tag : Nat) (v : Sample) : (sinkWrite tag v s).cfg = s.cfg := rfl
@[simp] theorem sinkWrite_orbOvf (tag : Nat) (v : Sample) : (sinkWrite tag v s).orbOvf = s.orbOvf := rfl
@[simp] theorem sinkWrite_res (tag : Nat) (v : Sample) : (sinkWrite tag v s).res = s.res := rfl
@[simp] theorem sinkWrite_filt (tag : Nat) (v : Sample) : (sinkWrite tag v s).filt = s.filt := rfl
@[simp] theorem sinkWrite_irb (tag : Nat) (v : Sample) : (sinkWrite tag v s).irb = s.irb := rfl
@[simp] theorem sinkWrite_orb (tag : Nat) (v : Sample) : (sinkWrite tag v s).orb = s.orb := rfl
@[simp] theorem sinkWrite_payload (tag : Nat) (v : Sample) : (sinkWrite tag v s).payload = s.payload := rfl
@[simp] theorem sinkWrite_par (tag : Nat) (v : Sample) : (sinkWrite tag v s).par = s.par := rfl
@[simp] theorem sinkWrite_cmd (tag : Nat) (v : Sample) : (sinkWrite tag v s).cmd = s.cmd := rfl
@[simp] theorem sinkWrite_halt (tag : Nat) (v : Sample) : (sinkWrite tag v s).halt = s.halt := rfl
@[simp] theorem sinkWrite_timer (tag : Nat) (v : Sample) (j : TimerId) : (sinkWrite tag v s).timer j = s.timer j := rfl
@[simp] theorem sinkWrite_gen (tag : Nat) (v : Sample) (j : GenId) : (sinkWrite tag v s).gen j = s.gen j := by cases j <;> rfl
@[simp] theorem sinkWrite_fm (tag : Nat) (v : Sample) : (sinkWrite tag v s).fm = s.fm := rfl
@[simp] theorem sinkWrite_rx (tag : Nat) (v : Sample) : (sinkWrite tag v s).env.rx = s.env.rx := rfl
@[simp] theorem sinkWrite_tx (tag : Nat) (v : Sample) : (sinkWrite tag v s).env.tx = s.env.tx := rfl
@[simp] theorem sinkWrite_blankParams (tag : Nat) (v : Sample) : (sinkWrite tag v s).env.blankParams = s.env.blankParams := rfl

@[simp] theorem rxProcess_fst (x : Sample) : (rxProcess x s).1 = s.env.rx.answer x := rfl
@[simp] theorem rxSetParams_fst (p : Payload) : (rxSetParams p s).1 = s.env.rx.code p := rfl
@[simp] theorem txGetAudio_fst : (txGetAudio s).1 = s.env.tx.sample := rfl
@[simp] theorem txSetParams_fst (p : Payload) : (txSetParams p s).1 = s.env.tx.code p := rfl
@[simp] theorem blankProcess_fst (x : Sample) :
    (blankProcess x s).1 = (blankFn s.env.blankParams s.filt.blank x).2 := rfl
@[simp] theorem blankProcess_filt (x : Sample) :
    (blankProcess x s).2.filt = { s.filt with blank := (blankFn s.env.blankParams s.filt.blank x).1 } := rfl
@[simp] theorem lpf1Filter_fst (y : Sample) : (lpf1Filter y s).1 = (lpfFn 0 s.filt.lpf1 y).2 := rfl
@[simp] theorem lpf1Filter_filt (y : Sample) :
    (lpf1Filter y s).2.filt = { s.filt with lpf1 := (lpfFn 0 s.filt.lpf1 y).1 } := rfl
@[simp] theorem lpf2Filter_fst (y : Sample) : (lpf2Filter y s).1 = (lpfFn 1 s.filt.lpf2 y).2 := rfl
@[simp] theorem lpf2Filter_filt (y : Sample) :
    (lpf2Filter y s).2.filt = { s.filt with lpf2 := (lpfFn 1 s.filt.lpf2 y).1 } := rfl
@[simp] theorem lpf3Filter_fst (y : Sample) : (lpf3Filter y s).1 = (lpfFn 2 s.filt.lpf3 y).2 := rfl
@[simp] theorem lpf3Filter_filt (y : Sample) :
    (lpf3Filter y s).2.filt = { s.filt with lpf3 := (lpfFn 2 s.filt.lpf3 y).1 } := rfl
@[simp] theorem sinkSpace_fst : (sinkSpace s).1 = s.env.sink.space := rfl
@[simp] theorem sinkSpace_calls : (sinkSpace s).2.calls = .sinkSpace s.env.sink.space :: s.calls := rfl
@[simp] theorem sinkWrite_calls (tag : Nat) (v : Sample) : (sinkWrite tag v s).calls = .sinkWrite tag v :: s.calls := rfl
@[simp] theorem rxReset_calls : (rxReset s).calls = .rxReset :: s.calls := rfl
@[simp] theorem rxProcess_calls (x : Sample) :
    (rxProcess x s).2.calls = .rxProcess x (s.env.rx.answer x) :: s.calls := rfl
@[simp] theorem rxSetParams_calls (p : Payload) :
    (rxSetParams p s).2.calls = .rxSetParams p (s.env.rx.code p) :: s.calls := rfl
@[simp] theorem txSetParams_calls (p : Payload) :
    (txSetParams p s).2.calls = .txSetParams p (s.env.tx.code p) :: s.calls := rfl
@[simp] theorem txGetAudio_calls : (txGetAudio s).2.calls = .txGetAudio s.env.tx.sample :: s.calls := rfl
@[simp] theorem blankSetParams_calls (p : Payload) : (blankSetParams p s).calls = .blankSetParams p :: s.calls := rfl
@[simp] theorem blankProcess_calls (x : Sample) :
    (blankProcess x s).2.calls = .blankProcess x (blankProcess x s).1 :: s.calls := rfl
@[simp] theorem lpf1Filter_calls (y : Sample) :
    (lpf1Filter y s).2.calls = .lpfFilter 0 y (lpf1Filter y s).1 :: s.calls := rfl
@[simp] theorem lpf2Filter_calls (y : Sample) :
    (lpf2Filter y s).2.calls = .lpfFilter 1 y (lpf2Filter y s).1 :: s.calls := rfl
@[simp] theorem lpf3Filter_calls (y : Sample) :
    (lpf3Filter y s).2.calls = .lpfFilter 2 y (lpf3Filter y s).1 :: s.calls := rfl

/-- The decoder after `reset()` (60_exceptions R257, R266 A5). -/
theorem rxReset_rx : (rxReset s).env.rx =
    if s.env.rx.clean then s.env.rx else { s.env.rx with st := Config.rxNext s.env.rx.st .reset, clean := true } := rfl

/-! ### The output ring -/

/-- Put(orb, v) writes the ring, its flag and, under the policy `fault`, the fault; nothing else. -/
theorem putOrb_shape (v : Sample) : ∃ o b h, putOrb v s = { s with orb := o, orbOvf := b, halt := h } := by
  unfold putOrb
  split
  · exact ⟨_, _, _, rfl⟩
  · split
    · exact ⟨_, _, _, rfl⟩
    · exact ⟨_, _, _, rfl⟩

@[simp] theorem putOrb_state (v : Sample) : (putOrb v s).state = s.state := by
  obtain ⟨_, _, _, h⟩ := putOrb_shape s v; rw [h]
@[simp] theorem putOrb_tmr (v : Sample) : (putOrb v s).tmr = s.tmr := by
  obtain ⟨_, _, _, h⟩ := putOrb_shape s v; rw [h]
@[simp] theorem putOrb_decodeEn (v : Sample) : (putOrb v s).decodeEn = s.decodeEn := by
  obtain ⟨_, _, _, h⟩ := putOrb_shape s v; rw [h]
@[simp] theorem putOrb_adcDetEn (v : Sample) : (putOrb v s).adcDetEn = s.adcDetEn := by
  obtain ⟨_, _, _, h⟩ := putOrb_shape s v; rw [h]
@[simp] theorem putOrb_mode (v : Sample) : (putOrb v s).mode = s.mode := by
  obtain ⟨_, _, _, h⟩ := putOrb_shape s v; rw [h]
@[simp] theorem putOrb_cfg (v : Sample) : (putOrb v s).cfg = s.cfg := by
  obtain ⟨_, _, _, h⟩ := putOrb_shape s v; rw [h]
@[simp] theorem putOrb_res (v : Sample) : (putOrb v s).res = s.res := by
  obtain ⟨_, _, _, h⟩ := putOrb_shape s v; rw [h]
@[simp] theorem putOrb_filt (v : Sample) : (putOrb v s).filt = s.filt := by
  obtain ⟨_, _, _, h⟩ := putOrb_shape s v; rw [h]
@[simp] theorem putOrb_irb (v : Sample) : (putOrb v s).irb = s.irb := by
  obtain ⟨_, _, _, h⟩ := putOrb_shape s v; rw [h]
@[simp] theorem putOrb_payload (v : Sample) : (putOrb v s).payload = s.payload := by
  obtain ⟨_, _, _, h⟩ := putOrb_shape s v; rw [h]
@[simp] theorem putOrb_par (v : Sample) : (putOrb v s).par = s.par := by
  obtain ⟨_, _, _, h⟩ := putOrb_shape s v; rw [h]
@[simp] theorem putOrb_cmd (v : Sample) : (putOrb v s).cmd = s.cmd := by
  obtain ⟨_, _, _, h⟩ := putOrb_shape s v; rw [h]
@[simp] theorem putOrb_env (v : Sample) : (putOrb v s).env = s.env := by
  obtain ⟨_, _, _, h⟩ := putOrb_shape s v; rw [h]
@[simp] theorem putOrb_calls (v : Sample) : (putOrb v s).calls = s.calls := by
  obtain ⟨_, _, _, h⟩ := putOrb_shape s v; rw [h]
@[simp] theorem putOrb_timer (v : Sample) (j : TimerId) : (putOrb v s).timer j = s.timer j := by simp [State.timer]
@[simp] theorem putOrb_gen (v : Sample) (j : GenId) : (putOrb v s).gen j = s.gen j := by cases j <;> simp [State.gen]
@[simp] theorem putOrb_fm (v : Sample) : (putOrb v s).fm = s.fm := by simp [State.fm]

/-- Put(orb, v) appends while there is room and leaves the ring alone when it is full (20_memory R65). -/
theorem putOrb_orb (v : Sample) :
    (putOrb v s).orb = if s.orb.length < Config.orbCap then s.orb ++ [v] else s.orb := by
  unfold putOrb State.orbCount
  split
  · rfl
  · split <;> rfl

/-- With `drop_new` a dropped sample sets the sticky flag and no fault is raised (20_memory R65). -/
theorem putOrb_dropNew (v : Sample) (h : s.par.orbOverflowPolicy = .dropNew) :
    (putOrb v s).halt = s.halt ∧
      (putOrb v s).orbOvf = (s.orbOvf || decide (Config.orbCap ≤ s.orb.length)) := by
  unfold putOrb State.orbCount
  split
  · next hl => simp [show ¬ Config.orbCap ≤ s.orb.length by omega]
  · next hl => simp [h, show Config.orbCap ≤ s.orb.length by omega]

/-- With `fault` a Put into a full ring raises the fault and sets no flag (20_memory R65). -/
theorem putOrb_fault (v : Sample) (h : s.par.orbOverflowPolicy = .fault) :
    (putOrb v s).orbOvf = s.orbOvf ∧
      (putOrb v s).halt = if Config.orbCap ≤ s.orb.length then some (s.halt.getD .orbOverflow) else s.halt := by
  unfold putOrb State.orbCount
  split
  · next hl => simp [show ¬ Config.orbCap ≤ s.orb.length by omega]
  · next hl => simp [h, State.raise, show Config.orbCap ≤ s.orb.length by omega]

/-- With room, Put raises no fault and sets no flag whatever the policy (20_memory R65). -/
theorem putOrb_room (v : Sample) (h : s.orb.length < Config.orbCap) : putOrb v s = { s with orb := s.orb ++ [v] } := by
  unfold putOrb State.orbCount; rw [if_pos h]

/-! ### Many puts -/

@[simp] theorem putOrbTimes_state (n : Nat) (v : Sample) : (putOrbTimes n v s).state = s.state := by
  induction n generalizing s with
  | zero => rfl
  | succ n ih => simp [putOrbTimes, ih]
@[simp] theorem putOrbTimes_tmr (n : Nat) (v : Sample) : (putOrbTimes n v s).tmr = s.tmr := by
  induction n generalizing s with
  | zero => rfl
  | succ n ih => simp [putOrbTimes, ih]
@[simp] theorem putOrbTimes_decodeEn (n : Nat) (v : Sample) : (putOrbTimes n v s).decodeEn = s.decodeEn := by
  induction n generalizing s with
  | zero => rfl
  | succ n ih => simp [putOrbTimes, ih]
@[simp] theorem putOrbTimes_adcDetEn (n : Nat) (v : Sample) : (putOrbTimes n v s).adcDetEn = s.adcDetEn := by
  induction n generalizing s with
  | zero => rfl
  | succ n ih => simp [putOrbTimes, ih]
@[simp] theorem putOrbTimes_mode (n : Nat) (v : Sample) : (putOrbTimes n v s).mode = s.mode := by
  induction n generalizing s with
  | zero => rfl
  | succ n ih => simp [putOrbTimes, ih]
@[simp] theorem putOrbTimes_cfg (n : Nat) (v : Sample) : (putOrbTimes n v s).cfg = s.cfg := by
  induction n generalizing s with
  | zero => rfl
  | succ n ih => simp [putOrbTimes, ih]
@[simp] theorem putOrbTimes_res (n : Nat) (v : Sample) : (putOrbTimes n v s).res = s.res := by
  induction n generalizing s with
  | zero => rfl
  | succ n ih => simp [putOrbTimes, ih]
@[simp] theorem putOrbTimes_filt (n : Nat) (v : Sample) : (putOrbTimes n v s).filt = s.filt := by
  induction n generalizing s with
  | zero => rfl
  | succ n ih => simp [putOrbTimes, ih]
@[simp] theorem putOrbTimes_irb (n : Nat) (v : Sample) : (putOrbTimes n v s).irb = s.irb := by
  induction n generalizing s with
  | zero => rfl
  | succ n ih => simp [putOrbTimes, ih]
@[simp] theorem putOrbTimes_payload (n : Nat) (v : Sample) : (putOrbTimes n v s).payload = s.payload := by
  induction n generalizing s with
  | zero => rfl
  | succ n ih => simp [putOrbTimes, ih]
@[simp] theorem putOrbTimes_par (n : Nat) (v : Sample) : (putOrbTimes n v s).par = s.par := by
  induction n generalizing s with
  | zero => rfl
  | succ n ih => simp [putOrbTimes, ih]
@[simp] theorem putOrbTimes_cmd (n : Nat) (v : Sample) : (putOrbTimes n v s).cmd = s.cmd := by
  induction n generalizing s with
  | zero => rfl
  | succ n ih => simp [putOrbTimes, ih]
@[simp] theorem putOrbTimes_env (n : Nat) (v : Sample) : (putOrbTimes n v s).env = s.env := by
  induction n generalizing s with
  | zero => rfl
  | succ n ih => simp [putOrbTimes, ih]
@[simp] theorem putOrbTimes_calls (n : Nat) (v : Sample) : (putOrbTimes n v s).calls = s.calls := by
  induction n generalizing s with
  | zero => rfl
  | succ n ih => simp [putOrbTimes, ih]
@[simp] theorem putOrbTimes_timer (n : Nat) (v : Sample) (j : TimerId) :
    (putOrbTimes n v s).timer j = s.timer j := by simp [State.timer]
@[simp] theorem putOrbTimes_gen (n : Nat) (v : Sample) (j : GenId) : (putOrbTimes n v s).gen j = s.gen j := by
  cases j <;> simp [State.gen]
@[simp] theorem putOrbTimes_fm (n : Nat) (v : Sample) : (putOrbTimes n v s).fm = s.fm := by simp [State.fm]

/-- `n` puts append as many copies as there is room for. -/
theorem putOrbTimes_orb (n : Nat) (v : Sample) :
    (putOrbTimes n v s).orb = s.orb ++ List.replicate (min n (Config.orbCap - s.orb.length)) v := by
  induction n generalizing s with
  | zero => simp [putOrbTimes]
  | succ n ih =>
    rw [putOrbTimes, ih, putOrb_orb]
    split
    · next h =>
      have : min (n + 1) (Config.orbCap - s.orb.length) =
          min n (Config.orbCap - (s.orb ++ [v]).length) + 1 := by simp; omega
      rw [this, List.replicate_succ]; simp
    · next h =>
      have h1 : Config.orbCap - s.orb.length = 0 := by omega
      simp [h1]

/-- With `drop_new`, `n` puts raise no fault and set the flag when one of them found the ring full. -/
theorem putOrbTimes_dropNew (n : Nat) (v : Sample) (h : s.par.orbOverflowPolicy = .dropNew) :
    (putOrbTimes n v s).halt = s.halt ∧
      (putOrbTimes n v s).orbOvf = (s.orbOvf || decide (Config.orbCap < s.orb.length + n ∧ 0 < n)) := by
  induction n generalizing s with
  | zero => simp [putOrbTimes]
  | succ n ih =>
    have hp := putOrb_dropNew s v h
    have hi := ih (putOrb v s) (by simpa using h)
    rw [putOrbTimes]
    refine ⟨hi.1.trans hp.1, ?_⟩
    rw [hi.2, hp.2, Bool.or_assoc, putOrb_orb, ← Bool.decide_or]
    congr 1
    apply decide_eq_decide.mpr
    split
    · simp; omega
    · omega

/-- With `fault`, `n` puts set no flag and raise the fault when one of them found the ring full. -/
theorem putOrbTimes_fault (n : Nat) (v : Sample) (h : s.par.orbOverflowPolicy = .fault) :
    (putOrbTimes n v s).orbOvf = s.orbOvf ∧
      (putOrbTimes n v s).halt =
        if Config.orbCap < s.orb.length + n ∧ 0 < n then some (s.halt.getD .orbOverflow) else s.halt := by
  induction n generalizing s with
  | zero => simp [putOrbTimes]
  | succ n ih =>
    have hp := putOrb_fault s v h
    have hi := ih (putOrb v s) (by simpa using h)
    rw [putOrbTimes]
    refine ⟨hi.1.trans hp.1, ?_⟩
    rw [hi.2, hp.2, putOrb_orb]
    by_cases hf : Config.orbCap ≤ s.orb.length
    · rw [if_pos hf, if_neg (show ¬ s.orb.length < Config.orbCap by omega),
        if_pos (show Config.orbCap < s.orb.length + (n + 1) ∧ 0 < n + 1 by omega)]
      split <;> rfl
    · rw [if_neg hf, if_pos (show s.orb.length < Config.orbCap by omega)]
      refine if_congr ?_ rfl rfl
      simp; omega

/-- With room for all, `n` puts raise no fault and set no flag whatever the policy. -/
theorem putOrbTimes_room (n : Nat) (v : Sample) (h : s.orb.length + n ≤ Config.orbCap) :
    putOrbTimes n v s = { s with orb := s.orb ++ List.replicate n v } := by
  induction n generalizing s with
  | zero => simp [putOrbTimes]
  | succ n ih =>
    rw [putOrbTimes, putOrb_room s v (by omega), ih _ (by simp; omega)]
    simp [List.replicate_succ]

end Sys2Proof.Machine
end

