-- ==== Sys2Proof/Laws/Frame.lean ====
section
/-! SUPPORT. What a run of micro-operations inside SAMPLES can and cannot change, said once (`RunFrame`) and proved for each
of them up to the whole loop; and what the audio path cannot change (`AudioFrame`). -/

namespace Sys2Proof.Machine

/-- What every micro-operation of SAMPLES leaves alone, and how it treats the FIFOs, the timers and the fault mark. -/
structure RunFrame (s t : State) : Prop where
  cfg : t.cfg = s.cfg
  res : t.res = s.res
  payload : t.payload = s.payload
  par : t.par = s.par
  cmd : t.cmd = s.cmd
  sink : t.env.sink = s.env.sink
  blankParams : t.env.blankParams = s.env.blankParams
  dur : ∀ k, (t.timer k).dur = (s.timer k).dur
  off : ∀ k, (t.timer k).off = (s.timer k).off
  el : ∀ k, (t.timer k).el = (s.timer k).el ∨ (t.timer k).el = (s.timer k).off
  orbPrefix : s.orb <+: t.orb
  orbBound : s.orb.length ≤ Config.orbCap → t.orb.length ≤ Config.orbCap
  irbLength : s.irb.length < Config.irbCap → t.irb.length = s.irb.length
  halt : s.par.orbOverflowPolicy = .dropNew → s.irb.length < Config.irbCap → t.halt = s.halt
  ovf : s.orbOvf = true → t.orbOvf = true
  ovfOnlyFull : t.orbOvf = s.orbOvf ∨ Config.orbCap ≤ t.orb.length
  haltKept : ∀ f, s.halt = some f → t.halt = some f
  haltCases : s.irb.length < Config.irbCap →
    t.halt = s.halt ∨ t.halt = some .orbOverflow ∧ s.par.orbOverflowPolicy = .fault

theorem RunFrame.refl (s : State) : RunFrame s s where
  cfg := rfl
  res := rfl
  payload := rfl
  par := rfl
  cmd := rfl
  sink := rfl
  blankParams := rfl
  dur _ := rfl
  off _ := rfl
  el _ := .inl rfl
  orbPrefix := List.prefix_rfl
  orbBound h := h
  irbLength _ := rfl
  halt _ _ := rfl
  ovf h := h
  ovfOnlyFull := .inl rfl
  haltKept _ h := h
  haltCases _ := .inl rfl

theorem RunFrame.trans {s t u : State} (a : RunFrame s t) (b : RunFrame t u) : RunFrame s u where
  cfg := b.cfg.trans a.cfg
  res := b.res.trans a.res
  payload := b.payload.trans a.payload
  par := b.par.trans a.par
  cmd := b.cmd.trans a.cmd
  sink := b.sink.trans a.sink
  blankParams := b.blankParams.trans a.blankParams
  dur k := (b.dur k).trans (a.dur k)
  off k := (b.off k).trans (a.off k)
  el k := by
    rcases b.el k with h | h
    · rw [h]; exact a.el k
    · right; rw [h, a.off k]
  orbPrefix := a.orbPrefix.trans b.orbPrefix
  orbBound h := b.orbBound (a.orbBound h)
  irbLength h := (b.irbLength (by rw [a.irbLength h]; exact h)).trans (a.irbLength h)
  halt hp hi := (b.halt (by rw [a.par]; exact hp) (by rw [a.irbLength hi]; exact hi)).trans (a.halt hp hi)
  ovf h := b.ovf (a.ovf h)
  ovfOnlyFull := by
    rcases b.ovfOnlyFull with h | h
    · rw [h]; exact a.ovfOnlyFull.imp_right (le_trans · b.orbPrefix.length_le)
    · exact .inr h
  haltKept f h := b.haltKept f (a.haltKept f h)
  haltCases h := by
    rcases b.haltCases (by rw [a.irbLength h]; exact h) with e | e
    · rw [e]; exact a.haltCases h
    · rw [a.par] at e; exact .inr e

/-- The audio path touches neither the sequencing register, the timers, the lines, the mode nor the input ring
(41_signal_path R162 (a)). -/
structure AudioFrame (s t : State) : Prop where
  state : t.state = s.state
  tmr : t.tmr = s.tmr
  decodeEn : t.decodeEn = s.decodeEn
  adcDetEn : t.adcDetEn = s.adcDetEn
  mode : t.mode = s.mode
  cfg : t.cfg = s.cfg
  irb : t.irb = s.irb
  rx : t.env.rx = s.env.rx

theorem AudioFrame.refl (s : State) : AudioFrame s s := ⟨rfl, rfl, rfl, rfl, rfl, rfl, rfl, rfl⟩

theorem AudioFrame.trans {s t u : State} (a : AudioFrame s t) (b : AudioFrame t u) : AudioFrame s u :=
  ⟨b.state.trans a.state, b.tmr.trans a.tmr, b.decodeEn.trans a.decodeEn, b.adcDetEn.trans a.adcDetEn,
    b.mode.trans a.mode, b.cfg.trans a.cfg, b.irb.trans a.irb, b.rx.trans a.rx⟩

/-! ### Primitives -/

/-- Whatever changes only the sequencing register, lines, mode, filters, generators, decoder, encoder and call record. -/
theorem runFrame_of_eq {s t : State} (cfg : t.cfg = s.cfg) (res : t.res = s.res) (payload : t.payload = s.payload)
    (par : t.par = s.par) (cmd : t.cmd = s.cmd) (sink : t.env.sink = s.env.sink)
    (bp : t.env.blankParams = s.env.blankParams) (tmr : ∀ k, t.timer k = s.timer k) (orb : t.orb = s.orb)
    (irb : t.irb = s.irb) (halt : t.halt = s.halt) (ovf : t.orbOvf = s.orbOvf) : RunFrame s t where
  cfg := cfg
  res := res
  payload := payload
  par := par
  cmd := cmd
  sink := sink
  blankParams := bp
  dur k := by rw [tmr]
  off k := by rw [tmr]
  el k := by rw [tmr]; exact .inl rfl
  orbPrefix := by rw [orb]
  orbBound h := by rw [orb]; exact h
  irbLength _ := by rw [irb]
  halt _ _ := halt
  ovf h := by rw [ovf]; exact h
  ovfOnlyFull := .inl ovf
  haltKept f h := by rw [halt]; exact h
  haltCases _ := .inl halt

theorem record_run (e : Call) (s : State) : RunFrame s (s.record e) := by
  apply runFrame_of_eq <;> simp

theorem setCtl_run (c : Ctl) (s : State) : RunFrame s (setCtl c s) := by
  apply runFrame_of_eq <;> simp

theorem setLines_run (b : Bool) (s : State) : RunFrame s (setLines b s) := by
  apply runFrame_of_eq <;> simp

theorem setMode_run (m : ModeWord) (s : State) : RunFrame s (setMode m s) := by
  apply runFrame_of_eq <;> simp

theorem genStart_run (k : GenId) (s : State) : RunFrame s (genStart k s) := by
  apply runFrame_of_eq <;> simp

theorem genStop_run (k : GenId) (s : State) : RunFrame s (genStop k s) := by
  apply runFrame_of_eq <;> simp

theorem genPull_run (k : GenId) (p : Pull) (s : State) : RunFrame s (genPull k p s).2 := by
  apply runFrame_of_eq <;> simp

theorem rxProcess_run (x : Sample) (s : State) : RunFrame s (rxProcess x s).2 := by
  apply runFrame_of_eq <;> simp

theorem txGetAudio_run (s : State) : RunFrame s (txGetAudio s).2 := by
  apply runFrame_of_eq <;> simp

theorem blankProcess_run (x : Sample) (s : State) : RunFrame s (blankProcess x s).2 := by
  apply runFrame_of_eq <;> simp

theorem lpf1Filter_run (y : Sample) (s : State) : RunFrame s (lpf1Filter y s).2 := by
  apply runFrame_of_eq <;> simp

theorem lpf2Filter_run (y : Sample) (s : State) : RunFrame s (lpf2Filter y s).2 := by
  apply runFrame_of_eq <;> simp

theorem lpf3Filter_run (y : Sample) (s : State) : RunFrame s (lpf3Filter y s).2 := by
  apply runFrame_of_eq <;> simp

/-- Start reloads the elapsed counter with the offset, or leaves it (40_timers R122). -/
theorem start_el (t : Timer) : t.start.el = t.el ∨ t.start.el = t.off := by
  unfold Timer.start; split
  · exact .inr rfl
  · exact .inl rfl

theorem timerStart_run (k : TimerId) (s : State) : RunFrame s (timerStart k s) where
  cfg := rfl
  res := rfl
  payload := rfl
  par := rfl
  cmd := rfl
  sink := rfl
  blankParams := rfl
  dur j := by simp only [timerStart_timer]; split <;> simp [*]
  off j := by simp only [timerStart_timer]; split <;> simp [*]
  el j := by
    simp only [timerStart_timer]; split
    · next h => subst h; exact start_el _
    · exact .inl rfl
  orbPrefix := List.prefix_rfl
  orbBound h := h
  irbLength _ := rfl
  halt _ _ := rfl
  ovf h := h
  ovfOnlyFull := .inl rfl
  haltKept _ h := h
  haltCases _ := .inl rfl

theorem timerStop_run (k : TimerId) (s : State) : RunFrame s (timerStop k s) where
  cfg := rfl
  res := rfl
  payload := rfl
  par := rfl
  cmd := rfl
  sink := rfl
  blankParams := rfl
  dur j := by simp only [timerStop_timer]; split <;> simp [*]
  off j := by simp only [timerStop_timer]; split <;> simp [*]
  el j := by simp only [timerStop_timer]; split <;> simp [*]
  orbPrefix := List.prefix_rfl
  orbBound h := h
  irbLength _ := rfl
  halt _ _ := rfl
  ovf h := h
  ovfOnlyFull := .inl rfl
  haltKept _ h := h
  haltCases _ := .inl rfl

theorem stopAll_run (s : State) : RunFrame s (stopAll s) where
  cfg := by simp
  res := by simp
  payload := by simp
  par := by simp
  cmd := by simp
  sink := by simp
  blankParams := by simp
  dur j := by simp only [stopAll_timer]; split <;> simp
  off j := by simp only [stopAll_timer]; split <;> simp
  el j := by simp only [stopAll_timer]; split <;> simp
  orbPrefix := by simp
  orbBound h := by simpa using h
  irbLength _ := by simp
  halt _ _ := by simp
  ovf h := by simpa using h
  ovfOnlyFull := by simp
  haltKept f h := by simpa using h
  haltCases _ := by simp

theorem putOrb_run (v : Sample) (s : State) : RunFrame s (putOrb v s) where
  cfg := by simp
  res := by simp
  payload := by simp
  par := by simp
  cmd := by simp
  sink := by simp
  blankParams := by simp
  dur _ := by simp
  off _ := by simp
  el _ := by simp
  orbPrefix := by rw [putOrb_orb]; split <;> simp
  orbBound h := by
    rw [putOrb_orb]; split
    · simp only [List.length_append, List.length_singleton]; omega
    · exact h
  irbLength _ := by simp
  halt h _ := (putOrb_dropNew s v h).1
  ovf h := by
    unfold putOrb
    split
    · exact h
    · split
      · rfl
      · exact h
  ovfOnlyFull := by
    unfold putOrb State.orbCount
    split
    · exact .inl rfl
    · next h =>
      split
      · exact .inr (Nat.not_lt.mp h)
      · exact .inl rfl
  haltKept f h := by
    unfold putOrb
    split
    · exact h
    · split
      · exact h
      · simp [h]
  haltCases _ := by
    unfold putOrb
    split
    · exact .inl rfl
    · split
      · exact .inl rfl
      · next h => cases hs : s.halt <;> simp [hs, h]

theorem putOrbTimes_run (n : Nat) (v : Sample) (s : State) : RunFrame s (putOrbTimes n v s) := by
  induction n generalizing s with
  | zero => exact .refl s
  | succ n ih => exact (putOrb_run v s).trans (ih _)

/-- Delay compensation is a Put and a Get, so the ring keeps its length (20_memory R61). -/
theorem delay_run (x : Sample) (s : State) : RunFrame s (delay x s).2 := by
  unfold delay
  split
  · exact .refl s
  · unfold putIrb State.irbCount
    split
    · next h =>
      unfold getIrb
      cases hi : s.irb with
      | nil => constructor <;> simp [State.timer, hi]
      | cons a l => constructor <;> simp [State.timer, hi]
    · next h =>
      unfold getIrb
      cases hi : s.irb with
      | nil => simp [hi, Config.irbCap] at h
      | cons a l =>
        rw [hi] at h
        constructor <;> simp [State.timer, hi] <;> intros <;> simp_all

/-! ### The state machine -/

/-- A chain of steps, the last one first. -/
theorem RunFrame.then {s t u : State} (b : RunFrame t u) (a : RunFrame s t) : RunFrame s u := a.trans b

theorem sendId_run (s : State) : RunFrame s (sendId s) := by
  unfold sendId; split
  · split
    · exact (timerStart_run _ _).then (genStart_run _ _)
    · exact .refl s
  · exact genStart_run _ _

theorem idRepeatCheck_run (s : State) : RunFrame s (idRepeatCheck s) := by
  unfold idRepeatCheck; split
  · exact (timerStart_run _ _).then (sendId_run _)
  · exact .refl s

theorem beginRelaying_run (s : State) : RunFrame s (beginRelaying s) :=
  (timerStart_run _ _).then (timerStart_run _ _)

theorem keyUp_run (s : State) : RunFrame s (keyUp s) :=
  (setMode_run _ _).then <| (setLines_run _ _).then <| (timerStart_run _ _).then <| (beginRelaying_run _).then
    (putOrbTimes_run _ _ _)

theorem listening_run (v : Bool) (s : State) : RunFrame s (listening v s) := by
  unfold listening; split
  · split
    · refine (keyUp_run _).then (RunFrame.then (t := timerStart .ker (setCtl .kerchunk s)) ?_
        ((timerStart_run _ _).then (setCtl_run _ _)))
      split
      · exact sendId_run _
      · exact .refl _
    · refine (keyUp_run _).then (RunFrame.then (t := setCtl .relaying s) ?_ (setCtl_run _ _))
      split
      · exact sendId_run _
      · exact .refl _
  · exact .refl s

theorem kerchunk_run (v : Bool) (s : State) : RunFrame s (kerchunk v s) := by
  unfold kerchunk; split
  · split
    · refine RunFrame.then (t := timerStop .ker (setCtl .relaying s)) ?_ ((timerStop_run _ _).then (setCtl_run _ _))
      dsimp only
      split
      · exact (timerStart_run _ _).then (sendId_run _)
      · exact .refl _
    · exact .refl s
  · exact (timerStop_run _ _).then <| (timerStop_run _ _).then <| (timerStop_run _ _).then <| (timerStop_run _ _).then <|
      (setLines_run _ _).then (setCtl_run _ _)

theorem relaying_run (v : Bool) (s : State) : RunFrame s (relaying v s) := by
  unfold relaying; split
  · split
    · exact (genStart_run _ _).then <| (timerStop_run _ _).then <| (timerStop_run _ _).then (setCtl_run _ _)
    · exact .refl s
  · exact (timerStart_run _ _).then <| (setCtl_run _ _).then (setLines_run _ _)

theorem ackIfEarned_run (s : State) : RunFrame s (ackIfEarned s) := by
  unfold ackIfEarned; split
  · exact (timerStop_run _ _).then (genStart_run _ _)
  · exact .refl s

theorem relayingWait_run (v : Bool) (s : State) : RunFrame s (relayingWait v s) := by
  unfold relayingWait; split
  · exact (timerStop_run _ _).then <| (setCtl_run _ _).then (setLines_run _ _)
  · split
    · exact (timerStart_run _ _).then <| (timerStop_run _ _).then <| (timerStop_run _ _).then <| (ackIfEarned_run _).then
        (setCtl_run _ _)
    · exact .refl s

theorem hang_run (v : Bool) (s : State) : RunFrame s (hang v s) := by
  unfold hang; split
  · exact (beginRelaying_run _).then <| (genStop_run _ _).then <| (setCtl_run _ _).then (setLines_run _ _)
  · split
    · refine (timerStop_run _ _).then (RunFrame.then (t := timerStop .hang (setCtl .listening s)) ?_
        ((timerStop_run _ _).then (setCtl_run _ _)))
      split
      · exact sendId_run _
      · exact .refl _
    · exact .refl s

theorem timeout_run (v : Bool) (s : State) : RunFrame s (timeout v s) := by
  unfold timeout; split
  · exact .refl s
  · exact (timerStart_run _ _).then <| (setCtl_run _ _).then (setLines_run _ _)

theorem timeoutWait_run (v : Bool) (s : State) : RunFrame s (timeoutWait v s) := by
  unfold timeoutWait; split
  · exact (timerStop_run _ _).then <| (setCtl_run _ _).then (setLines_run _ _)
  · split
    · exact (timerStart_run _ _).then <| (timerStop_run _ _).then <| (timerStop_run _ _).then <| (timerStop_run _ _).then <|
        (genStart_run _ _).then <| (genStop_run _ _).then (setCtl_run _ _)
    · exact .refl s

theorem handler_run (v : Bool) (s : State) : RunFrame s (handler v s) := by
  unfold handler; split
  · exact listening_run v s
  · exact kerchunk_run v s
  · exact (idRepeatCheck_run _).then (relaying_run v s)
  · exact (idRepeatCheck_run _).then (relayingWait_run v s)
  · exact (idRepeatCheck_run _).then (timeout_run v s)
  · exact (idRepeatCheck_run _).then (timeoutWait_run v s)
  · exact (idRepeatCheck_run _).then (hang_run v s)

theorem postTransition_run (s : State) : RunFrame s (postTransition s) := by
  unfold postTransition; split
  · dsimp only
    split
    · exact record_run _ _
    · split
      · exact (record_run _ _).then (record_run _ _)
      · exact (stopAll_run _).then <| (setMode_run _ _).then <| (record_run _ _).then (record_run _ _)
  · exact .refl s

/-- One evaluation (42_state_machine R180). -/
theorem eval_run (v : Bool) (s : State) : RunFrame s (eval v s) := (postTransition_run _).then (handler_run v s)

/-! ### The audio path -/

theorem gate_run (x : Sample) (s : State) : RunFrame s (gate x s).2 := by
  unfold gate; split
  · exact blankProcess_run x s
  · exact .refl s

theorem mixAck_run (y : Sample) (s : State) : RunFrame s (mixAck y s).2 := by
  unfold mixAck; dsimp only; split
  · exact record_run _ _
  · exact (genPull_run _ _ _).then (record_run _ _)

theorem mixId_run (y : Sample) (s : State) : RunFrame s (mixId y s).2 := by
  unfold mixId; dsimp only; split
  · exact record_run _ _
  · exact (genPull_run _ _ _).then (record_run _ _)

theorem mixTimeout_run (y : Sample) (s : State) : RunFrame s (mixTimeout y s).2 := by
  unfold mixTimeout; dsimp only; split
  · exact record_run _ _
  · split
    · exact (record_run _ _).then (record_run _ _)
    · exact (genPull_run _ _ _).then <| (record_run _ _).then (record_run _ _)

theorem mix_run (y : Sample) (s : State) : RunFrame s (mix y s).2 :=
  (mixTimeout_run _ _).then <| (mixId_run _ _).then (mixAck_run _ _)

theorem filterCascade_run (y : Sample) (s : State) : RunFrame s (filterCascade y s).2 :=
  (lpf3Filter_run _ _).then <| (lpf2Filter_run _ _).then (lpf1Filter_run _ _)

theorem inject_run (y : Sample) (s : State) : RunFrame s (inject y s).2 := txGetAudio_run s

theorem outputGate_run (z : Sample) (s : State) : RunFrame s (outputGate z s) := by
  unfold outputGate; split
  · exact putOrb_run z s
  · exact .refl s

theorem audioPath_run (x : Sample) (s : State) : RunFrame s (audioPath x s) :=
  (outputGate_run _ _).then <| (inject_run _ _).then <| (filterCascade_run _ _).then <| (mix_run _ _).then (gate_run _ _)

theorem gate_audio (x : Sample) (s : State) : AudioFrame s (gate x s).2 := by
  unfold gate; split
  · constructor <;> simp
  · exact .refl s

theorem mixAck_audio (y : Sample) (s : State) : AudioFrame s (mixAck y s).2 := by
  unfold mixAck; dsimp only; split <;> constructor <;> simp

theorem mixId_audio (y : Sample) (s : State) : AudioFrame s (mixId y s).2 := by
  unfold mixId; dsimp only; split <;> constructor <;> simp

theorem mixTimeout_audio (y : Sample) (s : State) : AudioFrame s (mixTimeout y s).2 := by
  unfold mixTimeout; dsimp only; split
  · constructor <;> simp
  · split <;> constructor <;> simp

theorem filterCascade_audio (y : Sample) (s : State) : AudioFrame s (filterCascade y s).2 := by
  unfold filterCascade; constructor <;> simp

theorem inject_audio (y : Sample) (s : State) : AudioFrame s (inject y s).2 := by
  unfold inject; constructor <;> simp

theorem outputGate_audio (z : Sample) (s : State) : AudioFrame s (outputGate z s) := by
  unfold outputGate; split
  · constructor <;> simp
  · exact .refl s

/-- The audio path of one sample (41_signal_path R151 to R158). -/
theorem audioPath_audio (x : Sample) (s : State) : AudioFrame s (audioPath x s) :=
  (gate_audio x s).trans <| (mixAck_audio _ _).trans <| (mixId_audio _ _).trans <| (mixTimeout_audio _ _).trans <|
    (filterCascade_audio _ _).trans <| (inject_audio _ _).trans (outputGate_audio _ _)

/-! ### One sample, the loop -/

/-- What one sample does after its delay: at most one evaluation, at most one pass of the audio path
(41_signal_path R147). -/
theorem policyStep_cases (c last : Bool) (a : RxAnswer) (x : Sample) (s : State) :
    (policyStep c last a x s).2 = s ∨ (policyStep c last a x s).2 = audioPath x s ∨
      (policyStep c last a x s).2 = eval (validSignal a c) s ∨
      (policyStep c last a x s).2 = audioPath x (eval (validSignal a c) s) := by
  unfold policyStep
  split
  · exact .inl rfl
  · dsimp only; split
    · exact .inr (.inr (.inr rfl))
    · exact .inr (.inr (.inl rfl))
  · dsimp only; split
    · exact .inr (.inr (.inr rfl))
    · exact .inr (.inr (.inl rfl))
  · exact .inr (.inr (.inr rfl))
  · exact .inr (.inl rfl)

/-- A predicate that an evaluation and the audio path keep is kept by a sample's policy step. -/
theorem policyStep_keeps (P : State → Prop) (he : ∀ v s, P s → P (eval v s)) (ha : ∀ x s, P s → P (audioPath x s))
    (c last : Bool) (a : RxAnswer) (x : Sample) (s : State) (h : P s) : P (policyStep c last a x s).2 := by
  rcases policyStep_cases c last a x s with e | e | e | e <;> rw [e]
  · exact h
  · exact ha _ _ h
  · exact he _ _ h
  · exact ha _ _ (he _ _ h)

/-- A predicate kept by decode and delay, by an evaluation and by the audio path is kept by the loop: the induction over a
block, packaged once. -/
theorem samplesLoop_keeps (P : State → Prop) (hd : ∀ x y s, P s → P (delay y (rxProcess x s).2).2)
    (he : ∀ v s, P s → P (eval v s)) (ha : ∀ x s, P s → P (audioPath x s)) (c : Bool) (raws : List Sample) (s : State)
    (h : P s) : P (samplesLoop c raws s) := by
  induction raws generalizing s with
  | nil => exact h
  | cons raw rest ih =>
    have hs : P (sampleStep c rest.isEmpty raw s).2 := policyStep_keeps P he ha _ _ _ _ _ (hd _ _ _ h)
    unfold samplesLoop
    generalize sampleStep c rest.isEmpty raw s = r at hs
    obtain ⟨_ | _, s'⟩ := r
    · exact ih s' hs
    · exact hs

/-- The whole loop of SAMPLES. -/
theorem samplesLoop_run (c : Bool) (raws : List Sample) (s : State) : RunFrame s (samplesLoop c raws s) :=
  samplesLoop_keeps (RunFrame s) (fun x y _ h => (h.trans (rxProcess_run x _)).trans (delay_run y _))
    (fun v _ h => h.trans (eval_run v _)) (fun x _ h => h.trans (audioPath_run x _)) c raws s (.refl s)

end Sys2Proof.Machine
end

