-- ==== Sys2Proof/Laws/Eval.lean ====
section
/-! SUPPORT. One lemma per field for the helpers of the state machine (42_state_machine R182 to R185, R188, R195, R201). -/

namespace Sys2Proof.Machine

variable (s : State)

/-! ### InsertSilence -/

@[simp] theorem insertSilence_state : (insertSilence s).state = s.state := putOrbTimes_state s Config.silenceLen 0
@[simp] theorem insertSilence_tmr : (insertSilence s).tmr = s.tmr := putOrbTimes_tmr s Config.silenceLen 0
@[simp] theorem insertSilence_decodeEn : (insertSilence s).decodeEn = s.decodeEn := putOrbTimes_decodeEn s Config.silenceLen 0
@[simp] theorem insertSilence_adcDetEn : (insertSilence s).adcDetEn = s.adcDetEn := putOrbTimes_adcDetEn s Config.silenceLen 0
@[simp] theorem insertSilence_mode : (insertSilence s).mode = s.mode := putOrbTimes_mode s Config.silenceLen 0
@[simp] theorem insertSilence_cfg : (insertSilence s).cfg = s.cfg := putOrbTimes_cfg s Config.silenceLen 0
@[simp] theorem insertSilence_res : (insertSilence s).res = s.res := putOrbTimes_res s Config.silenceLen 0
@[simp] theorem insertSilence_filt : (insertSilence s).filt = s.filt := putOrbTimes_filt s Config.silenceLen 0
@[simp] theorem insertSilence_irb : (insertSilence s).irb = s.irb := putOrbTimes_irb s Config.silenceLen 0
@[simp] theorem insertSilence_env : (insertSilence s).env = s.env := putOrbTimes_env s Config.silenceLen 0
@[simp] theorem insertSilence_payload : (insertSilence s).payload = s.payload := putOrbTimes_payload s Config.silenceLen 0
@[simp] theorem insertSilence_par : (insertSilence s).par = s.par := putOrbTimes_par s Config.silenceLen 0
@[simp] theorem insertSilence_cmd : (insertSilence s).cmd = s.cmd := putOrbTimes_cmd s Config.silenceLen 0
@[simp] theorem insertSilence_calls : (insertSilence s).calls = s.calls := putOrbTimes_calls s Config.silenceLen 0
@[simp] theorem insertSilence_fm : (insertSilence s).fm = s.fm := putOrbTimes_fm s Config.silenceLen 0
@[simp] theorem insertSilence_timer (k : TimerId) : (insertSilence s).timer k = s.timer k :=
  putOrbTimes_timer s Config.silenceLen 0 k
@[simp] theorem insertSilence_gen (k : GenId) : (insertSilence s).gen k = s.gen k :=
  putOrbTimes_gen s Config.silenceLen 0 k

/-! ### SendId, IdRepeatCheck -/

@[simp] theorem sendId_state : (sendId s).state = s.state := by
  unfold sendId; split <;> (try split) <;> simp
@[simp] theorem sendId_decodeEn : (sendId s).decodeEn = s.decodeEn := by
  unfold sendId; split <;> (try split) <;> simp
@[simp] theorem sendId_adcDetEn : (sendId s).adcDetEn = s.adcDetEn := by
  unfold sendId; split <;> (try split) <;> simp
@[simp] theorem sendId_mode : (sendId s).mode = s.mode := by
  unfold sendId; split <;> (try split) <;> simp
@[simp] theorem sendId_fm : (sendId s).fm = s.fm := by
  unfold sendId; split <;> (try split) <;> simp
@[simp] theorem sendId_cfg : (sendId s).cfg = s.cfg := by
  unfold sendId; split <;> (try split) <;> simp
@[simp] theorem sendId_par : (sendId s).par = s.par := by
  unfold sendId; split <;> (try split) <;> simp
@[simp] theorem sendId_orb : (sendId s).orb = s.orb := by
  unfold sendId; split <;> (try split) <;> simp
@[simp] theorem sendId_orbOvf : (sendId s).orbOvf = s.orbOvf := by
  unfold sendId; split <;> (try split) <;> simp
@[simp] theorem sendId_halt : (sendId s).halt = s.halt := by
  unfold sendId; split <;> (try split) <;> simp
@[simp] theorem sendId_filt : (sendId s).filt = s.filt := by
  unfold sendId; split <;> (try split) <;> simp
@[simp] theorem sendId_irb : (sendId s).irb = s.irb := by
  unfold sendId; split <;> (try split) <;> simp
@[simp] theorem sendId_rx : (sendId s).env.rx = s.env.rx := by
  unfold sendId; split <;> (try split) <;> simp
@[simp] theorem sendId_tx : (sendId s).env.tx = s.env.tx := by
  unfold sendId; split <;> (try split) <;> simp

@[simp] theorem idRepeatCheck_state : (idRepeatCheck s).state = s.state := by
  unfold idRepeatCheck; split <;> simp
@[simp] theorem idRepeatCheck_decodeEn : (idRepeatCheck s).decodeEn = s.decodeEn := by
  unfold idRepeatCheck; split <;> simp
@[simp] theorem idRepeatCheck_adcDetEn : (idRepeatCheck s).adcDetEn = s.adcDetEn := by
  unfold idRepeatCheck; split <;> simp
@[simp] theorem idRepeatCheck_mode : (idRepeatCheck s).mode = s.mode := by
  unfold idRepeatCheck; split <;> simp
@[simp] theorem idRepeatCheck_fm : (idRepeatCheck s).fm = s.fm := by
  unfold idRepeatCheck; split <;> simp
@[simp] theorem idRepeatCheck_cfg : (idRepeatCheck s).cfg = s.cfg := by
  unfold idRepeatCheck; split <;> simp
@[simp] theorem idRepeatCheck_par : (idRepeatCheck s).par = s.par := by
  unfold idRepeatCheck; split <;> simp
@[simp] theorem idRepeatCheck_orb : (idRepeatCheck s).orb = s.orb := by
  unfold idRepeatCheck; split <;> simp
@[simp] theorem idRepeatCheck_orbOvf : (idRepeatCheck s).orbOvf = s.orbOvf := by
  unfold idRepeatCheck; split <;> simp
@[simp] theorem idRepeatCheck_halt : (idRepeatCheck s).halt = s.halt := by
  unfold idRepeatCheck; split <;> simp
@[simp] theorem idRepeatCheck_filt : (idRepeatCheck s).filt = s.filt := by
  unfold idRepeatCheck; split <;> simp
@[simp] theorem idRepeatCheck_irb : (idRepeatCheck s).irb = s.irb := by
  unfold idRepeatCheck; split <;> simp
@[simp] theorem idRepeatCheck_rx : (idRepeatCheck s).env.rx = s.env.rx := by
  unfold idRepeatCheck; split <;> simp
@[simp] theorem idRepeatCheck_tx : (idRepeatCheck s).env.tx = s.env.tx := by
  unfold idRepeatCheck; split <;> simp

/-- SendId restarts the holdoff timer that runs and has expired (42_state_machine R182). -/
theorem sendId_timer (k : TimerId) : (sendId s).timer k =
    if k = .hold ∧ timerRunning .hold s = true ∧ timerExpired .hold s = true then (s.timer k).start else s.timer k := by
  unfold sendId; split <;> (try split) <;> cases k <;> simp_all

/-- SendId starts the generator, unless the holdoff timer runs and has not expired (42_state_machine R182). -/
theorem sendId_calls : (sendId s).calls =
    if timerRunning .hold s = true ∧ timerExpired .hold s = false then s.calls else .genStart .idgen :: s.calls := by
  unfold sendId; split <;> (try split) <;> simp_all

theorem sendId_gen (k : GenId) : (sendId s).gen k =
    if k = .idgen ∧ ¬ (timerRunning .hold s = true ∧ timerExpired .hold s = false) then (s.gen k).after k .start
    else s.gen k := by
  unfold sendId; split <;> (try split) <;> cases k <;> simp_all

/-! ### BeginRelaying, the actions on leaving LISTENING -/

@[simp] theorem beginRelaying_state : (beginRelaying s).state = s.state := by
  simp [beginRelaying]
@[simp] theorem beginRelaying_decodeEn : (beginRelaying s).decodeEn = s.decodeEn := by
  simp [beginRelaying]
@[simp] theorem beginRelaying_adcDetEn : (beginRelaying s).adcDetEn = s.adcDetEn := by
  simp [beginRelaying]
@[simp] theorem beginRelaying_mode : (beginRelaying s).mode = s.mode := by
  simp [beginRelaying]
@[simp] theorem beginRelaying_fm : (beginRelaying s).fm = s.fm := by
  simp [beginRelaying]
@[simp] theorem beginRelaying_cfg : (beginRelaying s).cfg = s.cfg := by
  simp [beginRelaying]
@[simp] theorem beginRelaying_par : (beginRelaying s).par = s.par := by
  simp [beginRelaying]
@[simp] theorem beginRelaying_orb : (beginRelaying s).orb = s.orb := by
  simp [beginRelaying]
@[simp] theorem beginRelaying_orbOvf : (beginRelaying s).orbOvf = s.orbOvf := by
  simp [beginRelaying]
@[simp] theorem beginRelaying_halt : (beginRelaying s).halt = s.halt := by
  simp [beginRelaying]
@[simp] theorem beginRelaying_filt : (beginRelaying s).filt = s.filt := by
  simp [beginRelaying]
@[simp] theorem beginRelaying_irb : (beginRelaying s).irb = s.irb := by
  simp [beginRelaying]
@[simp] theorem beginRelaying_calls : (beginRelaying s).calls = s.calls := by
  simp [beginRelaying]
@[simp] theorem beginRelaying_env : (beginRelaying s).env = s.env := by
  simp [beginRelaying]
@[simp] theorem beginRelaying_gen (k : GenId) : (beginRelaying s).gen k = s.gen k := by simp [beginRelaying]

/-- `keyUp` for any number of inserted samples; the lemmas about `keyUp` go through it, so that nothing unrolls 1200 Puts. -/
theorem keyUp_eq : ∃ n, keyUp s = setMode modeFm (setLines true (timerStart .id (beginRelaying (putOrbTimes n 0 s)))) ∧
    n = Config.silenceLen := ⟨Config.silenceLen, rfl, rfl⟩

@[simp] theorem keyUp_state : (keyUp s).state = s.state := by
  obtain ⟨n, h, -⟩ := keyUp_eq s; simp [h]
@[simp] theorem keyUp_cfg : (keyUp s).cfg = s.cfg := by
  obtain ⟨n, h, -⟩ := keyUp_eq s; simp [h]
@[simp] theorem keyUp_par : (keyUp s).par = s.par := by
  obtain ⟨n, h, -⟩ := keyUp_eq s; simp [h]
@[simp] theorem keyUp_calls : (keyUp s).calls = s.calls := by
  obtain ⟨n, h, -⟩ := keyUp_eq s; simp [h]
@[simp] theorem keyUp_env : (keyUp s).env = s.env := by
  obtain ⟨n, h, -⟩ := keyUp_eq s; simp [h]
@[simp] theorem keyUp_filt : (keyUp s).filt = s.filt := by
  obtain ⟨n, h, -⟩ := keyUp_eq s; simp [h]
@[simp] theorem keyUp_irb : (keyUp s).irb = s.irb := by
  obtain ⟨n, h, -⟩ := keyUp_eq s; simp [h]
@[simp] theorem keyUp_gen (k : GenId) : (keyUp s).gen k = s.gen k := by
  obtain ⟨n, h, -⟩ := keyUp_eq s; simp [h]
@[simp] theorem keyUp_mode : (keyUp s).mode = modeFm := by
  obtain ⟨n, h, -⟩ := keyUp_eq s; simp [h]
@[simp] theorem keyUp_fm : (keyUp s).fm = true := by
  obtain ⟨n, h, -⟩ := keyUp_eq s; simp [h, State.fm]
@[simp] theorem keyUp_decodeEn : (keyUp s).decodeEn = true := by
  obtain ⟨n, h, -⟩ := keyUp_eq s; simp [h]
@[simp] theorem keyUp_adcDetEn : (keyUp s).adcDetEn = true := by
  obtain ⟨n, h, -⟩ := keyUp_eq s; simp [h]
/-- The timers that leaving LISTENING starts (42_state_machine R183, R188). -/
theorem keyUp_timer (k : TimerId) : (keyUp s).timer k =
    if k = .id ∨ k = .timeout ∨ k = .minAck then (s.timer k).start else s.timer k := by
  obtain ⟨n, h, -⟩ := keyUp_eq s; rw [h]; cases k <;> simp [beginRelaying]
/-- The silence that leaving LISTENING inserts, as much as there is room for (42_state_machine R184, 20_memory R65). -/
theorem keyUp_orb : (keyUp s).orb = (putOrbTimes Config.silenceLen 0 s).orb := by
  obtain ⟨n, h, e⟩ := keyUp_eq s; rw [← e, h]; simp
theorem keyUp_orbOvf : (keyUp s).orbOvf = (putOrbTimes Config.silenceLen 0 s).orbOvf := by
  obtain ⟨n, h, e⟩ := keyUp_eq s; rw [← e, h]; simp
theorem keyUp_halt : (keyUp s).halt = (putOrbTimes Config.silenceLen 0 s).halt := by
  obtain ⟨n, h, e⟩ := keyUp_eq s; rw [← e, h]; simp

/-! ### The earned acknowledgement -/

@[simp] theorem ackIfEarned_state : (ackIfEarned s).state = s.state := by
  unfold ackIfEarned; split <;> simp
@[simp] theorem ackIfEarned_decodeEn : (ackIfEarned s).decodeEn = s.decodeEn := by
  unfold ackIfEarned; split <;> simp
@[simp] theorem ackIfEarned_adcDetEn : (ackIfEarned s).adcDetEn = s.adcDetEn := by
  unfold ackIfEarned; split <;> simp
@[simp] theorem ackIfEarned_mode : (ackIfEarned s).mode = s.mode := by
  unfold ackIfEarned; split <;> simp
@[simp] theorem ackIfEarned_fm : (ackIfEarned s).fm = s.fm := by
  unfold ackIfEarned; split <;> simp
@[simp] theorem ackIfEarned_cfg : (ackIfEarned s).cfg = s.cfg := by
  unfold ackIfEarned; split <;> simp
@[simp] theorem ackIfEarned_par : (ackIfEarned s).par = s.par := by
  unfold ackIfEarned; split <;> simp
@[simp] theorem ackIfEarned_orb : (ackIfEarned s).orb = s.orb := by
  unfold ackIfEarned; split <;> simp
@[simp] theorem ackIfEarned_orbOvf : (ackIfEarned s).orbOvf = s.orbOvf := by
  unfold ackIfEarned; split <;> simp
@[simp] theorem ackIfEarned_halt : (ackIfEarned s).halt = s.halt := by
  unfold ackIfEarned; split <;> simp
@[simp] theorem ackIfEarned_filt : (ackIfEarned s).filt = s.filt := by
  unfold ackIfEarned; split <;> simp
@[simp] theorem ackIfEarned_irb : (ackIfEarned s).irb = s.irb := by
  unfold ackIfEarned; split <;> simp
@[simp] theorem ackIfEarned_rx : (ackIfEarned s).env.rx = s.env.rx := by
  unfold ackIfEarned; split <;> simp
@[simp] theorem ackIfEarned_tx : (ackIfEarned s).env.tx = s.env.tx := by
  unfold ackIfEarned; split <;> simp

/-! ### PostTransition -/

@[simp] theorem postTransition_state : (postTransition s).state = s.state := by
  unfold postTransition; split <;> simp; split <;> (try split) <;> simp
@[simp] theorem postTransition_decodeEn : (postTransition s).decodeEn = s.decodeEn := by
  unfold postTransition; split <;> simp; split <;> (try split) <;> simp
@[simp] theorem postTransition_adcDetEn : (postTransition s).adcDetEn = s.adcDetEn := by
  unfold postTransition; split <;> simp; split <;> (try split) <;> simp
@[simp] theorem postTransition_cfg : (postTransition s).cfg = s.cfg := by
  unfold postTransition; split <;> simp; split <;> (try split) <;> simp
@[simp] theorem postTransition_par : (postTransition s).par = s.par := by
  unfold postTransition; split <;> simp; split <;> (try split) <;> simp
@[simp] theorem postTransition_orb : (postTransition s).orb = s.orb := by
  unfold postTransition; split <;> simp; split <;> (try split) <;> simp
@[simp] theorem postTransition_orbOvf : (postTransition s).orbOvf = s.orbOvf := by
  unfold postTransition; split <;> simp; split <;> (try split) <;> simp
@[simp] theorem postTransition_halt : (postTransition s).halt = s.halt := by
  unfold postTransition; split <;> simp; split <;> (try split) <;> simp
@[simp] theorem postTransition_filt : (postTransition s).filt = s.filt := by
  unfold postTransition; split <;> simp; split <;> (try split) <;> simp
@[simp] theorem postTransition_irb : (postTransition s).irb = s.irb := by
  unfold postTransition; split <;> simp; split <;> (try split) <;> simp
@[simp] theorem postTransition_env : (postTransition s).env = s.env := by
  unfold postTransition; split <;> simp; split <;> (try split) <;> simp
@[simp] theorem postTransition_gen (k : GenId) : (postTransition s).gen k = s.gen k := by
  unfold postTransition; split <;> simp; split <;> (try split) <;> simp

end Sys2Proof.Machine
end

