-- ==== Sys2Proof/Laws/PerInstr.lean ====
section
/-! SUPPORT. The family HeadWord: the encoder's word 0 selects the operation's own row of the opcode map (30_encoding R98) and
announces as many operand words as the encoder sends (R101). One lemma per constructor of `Instr`. -/

namespace Sys2Proof.Laws.HeadWord

/-- The row that an operation belongs to. -/
def op (i : Instr) : Op :=
  match i with
  | .reset => .reset
  | .setCallsign _ _ _ _ _ => .setCallsign
  | .setAck _ _ => .setAck
  | .setMisc _ _ _ _ _ _ _ => .setMisc
  | .samples _ _ => .samples
  | .drain => .drain
  | .modeWr _ => .modeWr

/-- The statement of the family. -/
def Statement (i : Instr) : Prop :=
  selectOp (encodeHead i) = some (op i) ∧
    (i.wellFormed = true → operandWords (encodeHead i) = (encodeOperands i).length)

theorem reset : Statement .reset := by
  refine ⟨by decide, fun _ => by decide⟩

theorem setCallsign (s e l : Bool) (h r : BitVec 8) : Statement (.setCallsign s e l h r) := by
  have hw := (head_setCallsign s e l h r).1
  have ho := opcode_of_masked (by decide) hw
  have hs : selectOp (encodeHead (.setCallsign s e l h r)) = some .setCallsign := by
    rw [selectOp_eq, if_neg (ne_of_opcode ho (by decide)), if_pos hw]
  exact ⟨hs, fun _ => by simp only [operandWords, hs, encodeOperands, List.length_nil]⟩

theorem setAck (m d : Ticks) : Statement (.setAck m d) :=
  ⟨(by decide : selectOp (3#4 ++ 0#28) = some .setAck), fun _ => (by decide : operandWords (3#4 ++ 0#28) = 2)⟩

theorem setMisc (c v : Bool) (b : BitVec 8) (x : BitVec 16) (o k h : Ticks) : Statement (.setMisc c v b x o k h) := by
  have hw := (head_setMisc c v b x o k h).1
  have ho := opcode_of_masked (by decide) hw
  have hs : selectOp (encodeHead (.setMisc c v b x o k h)) = some .setMisc := by
    rw [selectOp_eq, if_neg (ne_of_opcode ho (by decide)), if_neg (not_masked_of_opcode ho (by decide) (by decide)),
      if_neg (ne_of_opcode ho (by decide)), if_pos hw]
  exact ⟨hs, fun _ => by simp only [operandWords, hs, encodeOperands, List.length_cons, List.length_nil]⟩

theorem samples (c : Bool) (l : List Sample) : Statement (.samples c l) := by
  have hw := (head_samples c l).1
  have ho := opcode_of_masked (by decide) hw
  have hs : selectOp (encodeHead (.samples c l)) = some .samples := by
    rw [selectOp_eq, if_neg (ne_of_opcode ho (by decide)), if_neg (not_masked_of_opcode ho (by decide) (by decide)),
      if_neg (ne_of_opcode ho (by decide)), if_neg (not_masked_of_opcode ho (by decide) (by decide)), if_pos hw]
  refine ⟨hs, fun hl => ?_⟩
  have hb : l.length ≤ 255 := of_decide_eq_true hl
  simp only [operandWords, hs, encodeOperands, List.length_map, (head_samples c l).2.2, BitVec.toNat_ofNat]
  omega

theorem drain : Statement .drain := by
  refine ⟨by decide, fun _ => by decide⟩

theorem modeWr (m : ModeWord) : Statement (.modeWr m) := by
  have hw := (head_modeWr m).1
  have ho := opcode_of_masked (by decide) hw
  have hs : selectOp (encodeHead (.modeWr m)) = some .modeWr := by
    rw [selectOp_eq, if_neg (ne_of_opcode ho (by decide)), if_neg (not_masked_of_opcode ho (by decide) (by decide)),
      if_neg (ne_of_opcode ho (by decide)), if_neg (not_masked_of_opcode ho (by decide) (by decide)),
      if_neg (not_masked_of_opcode ho (by decide) (by decide)), if_neg (ne_of_opcode ho (by decide)), if_pos hw]
  exact ⟨hs, fun _ => by simp only [operandWords, hs, encodeOperands, List.length_nil]⟩

end Sys2Proof.Laws.HeadWord
end

