-- ==== Sys2Proof/Laws/SignalPath.lean ====
section
/-! SUPPORT. What the steps of the signal path yield: the delay line (41_signal_path R146), the mixer's frame (R152 to R155),
the filter and blanker states and the output ring after one sample (R151, R156, R158). -/

namespace Sys2Proof.Machine

variable (s : State)

/-! ### The delay line -/

/-- The sample that goes on, and what is left of the line: without COS squelch the head and the tail of the line with the new
sample at its end (41_signal_path R146). -/
theorem delay_eq (x : Sample) (h : s.cfg.useCos = false → s.irb.length < Config.irbCap) :
    delay x s =
      (if s.cfg.useCos then x else (s.irb ++ [x]).headD 0,
        { s with irb := if s.cfg.useCos then s.irb else (s.irb ++ [x]).tail }) := by
  unfold delay
  cases hc : s.cfg.useCos
  · simp only [Bool.false_eq_true, if_false, putIrb, State.irbCount, h hc, if_true, getIrb]
    cases s.irb <;> rfl
  · rfl

/-! ### The mixer touches the generators and the call record only -/

/-- `t` is `s` but for the collaborators' answers and the call record. -/
structure MixFrame (s t : State) : Prop where
  filt : t.filt = s.filt
  tx : t.env.tx = s.env.tx
  orb : t.orb = s.orb
  orbOvf : t.orbOvf = s.orbOvf
  halt : t.halt = s.halt
  mode : t.mode = s.mode
  par : t.par = s.par

theorem MixFrame.trans {s t u : State} (a : MixFrame s t) (b : MixFrame t u) : MixFrame s u where
  filt := b.filt.trans a.filt
  tx := b.tx.trans a.tx
  orb := b.orb.trans a.orb
  orbOvf := b.orbOvf.trans a.orbOvf
  halt := b.halt.trans a.halt
  mode := b.mode.trans a.mode
  par := b.par.trans a.par

theorem mixAck_frame (y : Sample) : MixFrame s (mixAck y s).2 := by
  unfold mixAck; dsimp only; split <;> constructor <;> simp

theorem mixId_frame (y : Sample) : MixFrame s (mixId y s).2 := by
  unfold mixId; dsimp only; split <;> constructor <;> simp

theorem mixTimeout_frame (y : Sample) : MixFrame s (mixTimeout y s).2 := by
  unfold mixTimeout; dsimp only; split
  · constructor <;> simp
  · split <;> constructor <;> simp

theorem mix_frame (y : Sample) : MixFrame s (mix y s).2 :=
  (mixAck_frame s y).trans ((mixId_frame _ _).trans (mixTimeout_frame _ _))

/-! ### From the mixed sample to the output ring -/

/-- The gate calls the blanker only while content is open (41_signal_path R151). -/
theorem gate_eq (x : Sample) : gate x s =
    if s.state = .relaying ∨ s.state = .kerchunk then
      (sat16 ((blankFn s.env.blankParams s.filt.blank x).2.toInt * s.cfg.rfAudioBoost.toNat), (blankProcess x s).2)
    else (0, s) := rfl

/-- What filters and encoder make of the mixed sample `y` (41_signal_path R156, R157). -/
def filtered (y : Sample) : Filters × Sample :=
  let a := lpfFn 0 s.filt.lpf1 y
  let b := lpfFn 1 s.filt.lpf2 a.2
  let c := lpfFn 2 s.filt.lpf3 b.2
  ({ s.filt with lpf1 := a.1, lpf2 := b.1, lpf3 := c.1 }, sat16 (c.2.toInt + s.env.tx.sample.toInt))

/-- One sample through the audio path is one Put, while the mode is FM, of the filtered mix, into a state with the filters
advanced and ring, flag and fault as before (41_signal_path R151 to R158). -/
theorem audioPath_put (x : Sample) : ∃ u : State,
    let g := gate x s
    let m := mix g.1 g.2
    audioPath x s = (if s.fm then putOrb (filtered g.2 m.1).2 u else u) ∧ u.filt = (filtered g.2 m.1).1 ∧
      u.orb = s.orb ∧ u.orbOvf = s.orbOvf ∧ u.halt = s.halt ∧ u.par = s.par := by
  have hg : MixFrame s { (gate x s).2 with filt := s.filt } := by
    rw [gate_eq]; split <;> constructor <;> simp
  have hm := mix_frame (gate x s).2 (gate x s).1
  refine ⟨(txGetAudio (filterCascade (mix (gate x s).1 (gate x s).2).1 (mix (gate x s).1 (gate x s).2).2).2).2, ?_, ?_, ?_⟩
  · have hfm : (mix (gate x s).1 (gate x s).2).2.fm = s.fm := by
      unfold State.fm; rw [hm.mode]; exact congrArg (· == modeFm) hg.mode
    simp only [audioPath, outputGate, inject, filterCascade, filtered, satAdd, txGetAudio_fst, txGetAudio_fm, lpf1Filter_fm,
      lpf2Filter_fm, lpf3Filter_fm, lpf1Filter_fst, lpf2Filter_fst, lpf3Filter_fst, lpf1Filter_filt, lpf2Filter_filt,
      lpf1Filter_tx, lpf2Filter_tx, lpf3Filter_tx, hfm, hm.filt, hm.tx]
  · simp only [filterCascade, filtered, txGetAudio_filt, lpf3Filter_filt, lpf1Filter_filt, lpf2Filter_filt,
      lpf1Filter_fst, lpf2Filter_fst, hm.filt]
  · simp only [filterCascade, txGetAudio_orb, lpf3Filter_orb, lpf2Filter_orb, lpf1Filter_orb, txGetAudio_orbOvf,
      lpf3Filter_orbOvf, lpf2Filter_orbOvf, lpf1Filter_orbOvf, txGetAudio_halt, lpf3Filter_halt, lpf2Filter_halt,
      lpf1Filter_halt, txGetAudio_par, lpf3Filter_par, lpf2Filter_par, lpf1Filter_par]
    exact ⟨hm.orb.trans hg.orb, hm.orbOvf.trans hg.orbOvf, hm.halt.trans hg.halt, hm.par.trans hg.par⟩

/-- The filter and blanker states after one sample (41_signal_path R151, R156, 10_state R35). -/
theorem audioPath_filt (x : Sample) :
    (audioPath x s).filt = (filtered (gate x s).2 (mix (gate x s).1 (gate x s).2).1).1 := by
  obtain ⟨u, h, hf, -⟩ := audioPath_put s x
  rw [h]; split <;> simp [hf]

end Sys2Proof.Machine
end

