-- ==== Sys2Proof/Tests/Slice0.lean ====
section
/-! SUPPORT. Tests: ill-formed terms refused, words of the spec decoded, at most two steps per operation with the results of
95_test_vectors (the vector's name stands at each), and for every obligation with hypotheses a witness that meets them. -/

namespace Sys2Proof.Tests

open Sys2Proof.Machine

/-! ### A small state: the environment ENV0 of 95_test_vectors Part 0, without the delay line's content -/

/-- Parameters of ENV0. -/
def env0 : Params where
  rxPrescaleShift := 0
  ackDelayOffset := 0
  sinkHeadroom := 1
  fmTag := 7
  stopAllHoldoff := true
  orbOverflowPolicy := .dropNew

/-- Power-on with ENV0's pass-through filters, `use_cos = 1`, `rf_audio_boost = 3`, `rx_level = 1`. -/
def base : State :=
  { State.reset with
    par := env0, filt := ⟨.thru, .thru, .thru, .thru⟩, irb := [], cfg := ⟨false, false, false, true, false, 3, 1⟩ }

/-- A state of the sequencing register with the mode FM. -/
def inState (c : Ctl) : State := { base with state := c, mode := modeFm }

/-- Timer `k` set to `{dur, el, run}` with offset 0. -/
def withTimer (k : TimerId) (dur el : Ticks) (run : Bool) (s : State) : State :=
  s.modTimer k fun _ => { dur := dur, off := 0, el := el, run := run }

/-- The decoder will answer as listed. -/
def withAnswers (l : List RxAnswer) (s : State) : State :=
  { s with env := { s.env with rx := { s.env.rx with replies := l } } }

/-- The encoder will answer as listed. -/
def withTone (l : List Sample) (s : State) : State :=
  { s with env := { s.env with tx := { s.env.tx with audio := l } } }

/-- The sink will report as listed. -/
def withSpaces (l : List Nat) (s : State) : State :=
  { s with env := { s.env with sink := { s.env.sink with spaces := l } } }

/-- Generator `k` will answer as listed. -/
def withReplies (k : GenId) (l : List GenReply) (s : State) : State := s.setGen k { s.gen k with replies := l }

/-- A generator's answer that leaves it on or off. -/
def answer (a : Sample) (code : StatusCode) (on : Bool) : GenReply := ⟨a, code, on, on⟩

/-- Every generator is off and stays off at the next `n` calls with an effect. -/
def quiet (n : Nat) (s : State) : State :=
  let l := List.replicate n (answer 0 0 false)
  withReplies .idgen l (withReplies .ackgen l (withReplies .totone l s))

/-- The state an operation leaves, where it leaves one. -/
def after (i : Instr) (s : State) : State :=
  match exec i s with
  | .next t => t
  | .fault _ => s
  | .refused _ => s

/-! ### Well-formedness -/

/-- A block of 256 samples has no encoding (`BLOCK_MAX = 255`, 00_scope R6). -/
theorem test_illformed_samples_256 : (Instr.samplesZ true 256).wellFormed = false := by
  rw [Instr.samplesZ, Instr.samplesC, Instr.wellFormed, List.length_replicate]; decide

/-- A block of 255 has one. -/
theorem test_wellformed_samples_255 : (Instr.samplesZ true 255).wellFormed = true := by
  rw [Instr.samplesZ, Instr.samplesC, Instr.wellFormed, List.length_replicate]; decide

/-! ### Decoding words of 95_test_vectors 2.5, 2.7 and 2.10 -/

theorem test_decode_reset : decodePacket [0x10000000] = .instr .reset [] := by decide
theorem test_decode_setCallsign : decodePacket [0x22000A0F] = .instr (.setCallsign false false true 10 15) [] := by decide
theorem test_decode_setAck :
    decodePacket [0x30000000, 0x0000BB80, 0x00002EE0] = .instr (.setAck 48000 12000) [] := by decide
theorem test_decode_setMisc : decodePacket [0x4C030002, 0x0041EB00, 0x000001F4, 0x00011940] =
    .instr (.setMisc true true 3 2 4320000 500 72000) [] := by decide
theorem test_decode_samples : decodePacket [0x58000005, 0x0000000B, 0x0000000C, 0x0000000D, 0x0000000E, 0x0000000F] =
    .instr (.samples true [11, 12, 13, 14, 15]) [] := by decide
theorem test_decode_drain : decodePacket [0x60000000] = .instr .drain [] := by decide
theorem test_decode_modeWr : decodePacket [0x70000001] = .instr (.modeWr 1) [] := by decide

/-- The encoder sends the words of G10. -/
theorem test_encode_setMisc :
    encode (.setMisc true true 3 2 4320000 500 72000) = [0x4C030002, 0x0041EB00, 0x000001F4, 0x00011940] := by decide

/-- The table's numbering: word 0 lowest, operand words of zeros above `nbits`. -/
theorem test_table_word : decodeTableWord 32 0x58000002 = some (.samples true [0, 0]) := by decide

/-! ### Lines of text of 95_test_vectors -/

/-- The first block of the programs with the word `B1` as a comment. -/
theorem test_asm_samples : asmRead "SAMPLES cos=1 n=4 : 100 -200 30000 -30000   ; B1" =
    some [.samples true [100, BitVec.ofInt 16 (-200), 30000, BitVec.ofInt 16 (-30000)]] := by decide

/-- The expansions of 30_encoding R108. -/
theorem test_asm_pseudo :
    asmRead "REPEAT 2 : SAMPLESZ cos=0 n=3" = some [.samples false [0, 0, 0], .samples false [0, 0, 0]] ∧
    asmRead "CONFIG_MIN" = asmRead "SET_MISC cos=0 inv=0 boost=1 rxlevel=1 timeout=0 kerchunk=0 hang=0" := by decide

/-- A number out of its range, and a block of another length than its `n`, are not read; a printed line is. -/
theorem test_asm_range :
    asmRead "SET_CALLSIGN start=1 end=1 latch=0 holdoff=256 repeat=0" = none ∧ asmRead "SAMPLES cos=0 n=1 : 5 5" = none ∧
    asmRead (asm (.setAck 1000 4)) = some [.setAck 1000 4] := by decide

/-! ### One step each -/

/-- Z2. -/
theorem test_reset_Z2 :
    let s := withTimer .timeout 1000 400 true (withTimer .hold 1440000 9 true
      { inState .relaying with decodeEn := true, adcDetEn := true, orb := [1, 2, 3], orbOvf := true })
    let t := after .reset s
    t.state = .listening ∧ t.orb = [] ∧ t.orbOvf = false ∧ t.timer .timeout = ⟨1000, 0, 400, false⟩ ∧
      t.timer .hold = ⟨1440000, 0, 9, false⟩ ∧ t.mode = modeFm ∧ t.decodeEn = true := by decide

/-- Z3. -/
theorem test_reset_Z3 :
    let s := withTimer .hold 1440000 9 true { base with par := { env0 with stopAllHoldoff := false } }
    (after .reset s).timer .hold = ⟨1440000, 0, 9, true⟩ := by decide

/-- G4. -/
theorem test_setCallsign_G4 :
    (after (.setCallsign true false false 2 0) (withTimer .hold 1440000 5000 true base)).timer .hold =
      ⟨2880000, 0, 0, true⟩ := by decide

/-- G5 and G6: the holdoff timer is not stopped; the generator's code is returned. -/
theorem test_setCallsign_G5_G6 :
    let t := after (.setCallsign true false false 0 0)
      (withReplies .idgen [answer 0 3 false] (withTimer .hold 1440000 5000 true base))
    t.timer .hold = ⟨0, 0, 5000, true⟩ ∧ t.res = ⟨3, false, 0⟩ := by decide

/-- G7, with `ACK_DELAY_OFFSET = 600`. -/
theorem test_setAck_G7 :
    let t := after (.setAck 48000 12000) { base with par := { env0 with ackDelayOffset := 600 } }
    t.timer .ackDly = ⟨12000, 600, 0, false⟩ ∧ t.timer .minAck = ⟨48000, 0, 0, false⟩ := by decide

/-- G8. -/
theorem test_setAck_G8 :
    let t := after (.setAck 0 6000) (withTimer .minAck 48000 0 false base)
    (t.timer .ackDly).dur = 6000 ∧ (t.timer .minAck).dur = 48000 := by decide

/-- G11 and G13. -/
theorem test_setMisc_G11_G13 :
    let s := withTimer .timeout 1000 400 true base
    let t := after (.setMisc true true 3 2 300 500 72000)
      { s with env := { s.env with rx := { s.env.rx with codes := [5] } } }
    t.timer .timeout = ⟨300, 0, 400, true⟩ ∧ t.cfg.rxLevel = 2 ∧ t.res = ⟨5, false, 0⟩ ∧
      t.calls = [.rxSetParams 0 5, .blankSetParams 0, .totoneSetParams 0] := by decide

/-- G12. -/
theorem test_setMisc_G12 :
    let t := after (.setMisc true true 3 2 300 500 72000)
      { base with env := { base.env with rx := { base.env.rx with codes := [0] }, tx := { base.env.tx with codes := [6] } } }
    t.res = ⟨6, false, 0⟩ := by decide

/-- Q4. -/
theorem test_drain_Q4 :
    (after .drain (withSpaces [2, 1] { base with orb := [1, 2, 3, 4, 5] })).orb = [2, 3, 4, 5] := by decide

/-- Q5: an empty ring is not asked about. -/
theorem test_drain_Q5 : (after .drain (withSpaces [100] base)).calls = [] := by decide

/-- G14, G15. -/
theorem test_modeWr_G14_G15 :
    (after (.modeWr 0) (inState .relaying)).mode = modeIdle ∧ (after (.modeWr 0) (inState .relaying)).state = .relaying ∧
      (after (.modeWr 3) base).mode = 3 := by decide

/-- A11. -/
theorem test_samples_A11 :
    (after (.samples true [5]) { base with cfg := { base.cfg with rxLevel := 0 } }).res = ⟨0, true, 2⟩ := by decide

/-- M1 and E14: a block of two in RELAYING, the first sample relayed, the last evaluated without carrier and gated. -/
theorem test_samples_M1_E14 :
    let s := withTimer .ackDly 4 9 false (withTone [0, 0] (withAnswers [⟨false, true⟩, ⟨false, false⟩]
      (quiet 2 (inState .relaying))))
    let t := after (.samples true [100, 100]) s
    t.orb = [300, 0] ∧ t.state = .relayingWait ∧ t.timer .ackDly = ⟨4, 0, 0, true⟩ ∧ t.res = ⟨0, false, 0⟩ := by decide

/-! ### Shared operations -/

/-- A2, A9, A10. -/
theorem test_scale_A2_A9_A10 :
    let g := fun r => { base.cfg with rxLevel := r }
    scale env0 (g 2) (BitVec.ofInt 16 (-7)) = BitVec.ofInt 16 (-3) ∧
      scale { env0 with rxPrescaleShift := 8 } (g 128) (BitVec.ofInt 16 (-20000)) = BitVec.ofInt 16 (-32768) ∧
      scale { env0 with rxPrescaleShift := 15 } (g 65535) (BitVec.ofInt 16 (-32768)) = BitVec.ofInt 16 (-16384) := by decide

/-- T8, T9, T15, T23. -/
theorem test_timers :
    (Timer.start ⟨4, 9, 0, false⟩ = ⟨4, 9, 9, true⟩) ∧ (Timer.start ⟨0, 0, 120, true⟩ = ⟨0, 0, 120, true⟩) ∧
      (Timer.clock 100 ⟨500, 0, 4294967290, true⟩ = ⟨500, 0, 4294967295, true⟩) ∧
      ({ base with tmr := base.tmr.map fun _ => ⟨5, 0, 1, true⟩, par := { env0 with stopAllHoldoff := false } } |> stopAll |>
        State.runOut) = 0b0010000 := by decide

/-- E15: the timeout tone is started before the identification. -/
theorem test_eval_E15 :
    let s := withTimer .id 1440000 1440000 true (withTimer .timeout 1000 1000 true (inState .relaying))
    let t := eval true s
    t.state = .timeout ∧ t.timer .id = ⟨1440000, 0, 0, true⟩ ∧ t.timer .timeout = ⟨1000, 0, 1000, false⟩ ∧
      t.calls.reverse.filter (·.isCommand) = [.genStart .totone, .genStart .idgen] := by decide

/-- E18: a short transmission earns no acknowledgement. -/
theorem test_eval_E18 :
    let s := withTimer .ackDly 4 4 true (withTimer .minAck 48000 1000 true (withTimer .hang 6 0 false (inState .relayingWait)))
    let t := eval false s
    t.state = .hang ∧ t.timer .minAck = ⟨48000, 0, 1000, true⟩ ∧ t.timer .hang = ⟨6, 0, 0, true⟩ ∧
      t.calls.filter (·.isCommand) = [] := by decide

/-- E4: the idle end of a transmission; the mode is given back and the holdoff timer stopped. -/
theorem test_eval_E4 :
    let t := eval false (withTimer .hold 1440000 9 true (inState .listening))
    t.mode = modeIdle ∧ t.timer .hold = ⟨1440000, 0, 9, false⟩ := by decide

/-- E3, on the laws of the evaluation (a run of 1200 Puts is not unrolled). -/
theorem test_eval_E3 :
    let s := withTimer .timeout 1000 0 false { base with cfg := { base.cfg with atStart := true, atLatch := true } }
    (eval true s).state = .relaying ∧ (eval true s).mode = modeFm := by
  have h : ∀ s : State, s.state = .listening → (s.timer .ker).dur = 0 → (eval true s).state = .relaying ∧
      (eval true s).mode = modeFm := by
    intro s h0 h1
    have hh : ∃ r, handler true s = keyUp r ∧ r.state = .relaying := by
      unfold handler
      rw [h0]
      simp only [listening, if_true, h1]
      refine ⟨_, rfl, ?_⟩
      split <;> simp
    obtain ⟨r, hr, hs⟩ := hh
    have hp : postTransition (keyUp r) = keyUp r := by
      unfold postTransition
      rw [if_neg]
      simp [hs]
    rw [eval, hr, hp]
    simp [hs]
  exact h _ rfl rfl

/-! ### Witnesses: concrete states and operands that meet the hypotheses of the obligations -/

/-- A full delay line and a packet on the port. -/
def ring : State := { base with irb := List.replicate 2400 5, cmd := [0x70000001] }

/-- RELAYING with the repeat timer running and due. -/
def due : State := withTimer .id 1440000 1440000 true (inState .relaying)

/-- An output ring filled to `n`. -/
def filled (n : Nat) (s : State) : State := { s with orb := List.replicate n 9 }

/-- A parameter set with the policy `fault`. -/
def faulting (s : State) : State := { s with par := { env0 with orbOverflowPolicy := .fault } }

theorem wit_DecodeEncodeRoundTrip : (Instr.samplesZ true 255).wellFormed = true ∧ (Instr.samplesZ false 0).wellFormed = true :=
  ⟨test_wellformed_samples_255, by decide⟩

theorem wit_IllegalExactlyByOpcodeOrZeroField :
    legalWord 0x500000FF ∧ ¬ legalWord 0x50000100 ∧ ¬ legalWord 0x00000000 ∧ ¬ legalWord 0x80000000 ∧ legalWord 0x70000003 ∧
      ¬ legalWord 0x70000004 := by
  refine ⟨?_, ?_, ?_, ?_, ?_, ?_⟩ <;> simp only [legalWord] <;> decide

theorem wit_OpcodeRowsDisjoint :
    ∃ r ∈ opcodeTable, ∃ q ∈ opcodeTable, r.selects 0x5800000A = true ∧ q.selects 0x5800000A = true := by decide

theorem wit_PacketLengthFromWordZero :
    decodePacket [0x50000001, 7, 8] = .instr (.samples false [7]) [8] ∧ decodePacket [0x50000000, 7] = .instr (.samples false []) [7] := by
  decide

theorem wit_SampleHighHalvesIgnored :
    legalWord 0x50000001 ∧ (field 0x50000001 28 4).toNat = 5 ∧
      ([0x1234FF38] : List CmdWord).length = (field 0x50000001 0 8).toNat ∧
      ([0x1234FF38] : List CmdWord).map (fun w => field w 0 16) = [0x0000FF38].map (fun w => field w 0 16) := by
  simp only [legalWord]; decide

theorem wit_StepRunsDecodedOperation : decodePacket ring.cmd = .instr (.modeWr 1) [] := by decide

theorem wit_StepRefusesIllegalWord :
    ({ base with cmd := [0x50000100, 0x60000000] } : State).cmd = 0x50000100 :: [0x60000000] ∧ ¬ legalWord 0x50000100 :=
  ⟨rfl, wit_IllegalExactlyByOpcodeOrZeroField.2.1⟩

/-- No word; a begun SET_ACK, a begun SET_MISC, and a begun SAMPLES of two with a nonzero ignored half. -/
theorem wit_StepWaitsForMissingWords :
    base.cmd = [] ∧
      (legalWord 0x30000000 ∧ (field 0x30000000 28 4).toNat = 3 ∧ ([1] : List CmdWord).length < 2) ∧
      (legalWord 0x4C030002 ∧ (field 0x4C030002 28 4).toNat = 4 ∧ ([1, 2] : List CmdWord).length < 3) ∧
      (legalWord 0x50000002 ∧ (field 0x50000002 28 4).toNat = 5 ∧
        ([0x1234FF38] : List CmdWord).length < (field 0x50000002 0 8).toNat) := by
  simp only [legalWord]; decide

theorem wit_ResetTwiceIsResetOnce :
    ∃ t u, exec .reset due = .next t ∧ exec .reset t = .next u := ⟨_, _, rfl, rfl⟩

theorem wit_SetCallsignStores : (withReplies .idgen [answer 0 3 false] base).env.idgen.replies = answer 0 3 false :: [] := rfl

theorem wit_SetAckStores : (withReplies .ackgen [answer 0 3 false] base).env.ackgen.replies = answer 0 3 false :: [] := rfl

theorem wit_DrainCountFormula :
    let s := withSpaces [2, 1, 0] { base with orb := [1, 2] }
    s.env.sink.spaces = (List.range (s.orb.length + 1)).map (fun j => 2 - j) := by decide

theorem wit_SamplesRefusedWithoutLevel : State.reset.cfg.rxLevel = 0 := rfl

theorem wit_EmptyBlockChangesNothing : base.cfg.rxLevel ≠ 0 := by decide

theorem wit_SamplesCompletes :
    ring.cfg.rxLevel ≠ 0 ∧ ring.par.orbOverflowPolicy = .dropNew ∧ ring.irb.length < Config.irbCap ∧
      ring.orb.length ≤ Config.orbCap := by
  refine ⟨by decide, rfl, ?_, by decide⟩
  rw [ring, List.length_replicate]; decide

theorem wit_SequencingWriters :
    ∃ t, exec (.modeWr 2) due = .next t ∧ (∀ c raws, Instr.modeWr 2 ≠ .samples c raws) ∧ Instr.modeWr 2 ≠ .reset ∧
      Instr.modeWr 2 ≠ .drain :=
  ⟨_, rfl, by intros; simp, by simp, by simp⟩

theorem wit_SequencingWriters_mode : ∃ t, exec .drain base = .next t ∧ (∀ m, Instr.drain ≠ .modeWr m) :=
  ⟨_, rfl, by intros; simp⟩

theorem wit_ConfigurationImmutable :
    ∃ t, exec (.modeWr 2) due = .next t ∧ (∀ b e l h r, Instr.modeWr 2 ≠ .setCallsign b e l h r) ∧
      (∀ m d, Instr.modeWr 2 ≠ .setAck m d) ∧ ∀ c v b x o k h, Instr.modeWr 2 ≠ .setMisc c v b x o k h :=
  ⟨_, rfl, by intros; simp, by intros; simp, by intros; simp⟩

theorem wit_ResultRegistersWritten :
    (∃ t, exec .reset due = .next t) ∧ ∃ t, exec (.samples true [5]) State.reset = .next t := ⟨⟨_, rfl⟩, ⟨_, rfl⟩⟩

theorem wit_StartIsGuarded : (due.timer .id).dur ≠ 0 ∧ (due.timer .hang).dur = 0 ∧ TimerId.hang ≠ TimerId.id := by decide

/-- The examples of 40_timers R125: a timer one tick short of its duration, one at it, and a disabled one. -/
theorem wit_ExpiredStaysExpired :
    Timer.expired ⟨500, 0, 499, true⟩ = false ∧ Timer.expired ⟨500, 0, 500, true⟩ = true ∧
      Timer.expired ⟨0, 0, 0, false⟩ = true := by decide

/-- Not leaving LISTENING; leaving it with 1200 queued, and with 1201 under both policies. -/
theorem wit_EvaluationFrameAndSilence :
    ¬ ((inState .hang).state = .listening ∧ true = true) ∧
      (filled 1200 base).state = .listening ∧ ¬ 1200 < (filled 1200 base).orb.length ∧
      (filled 1201 base).state = .listening ∧ 1200 < (filled 1201 base).orb.length ∧
      (filled 1201 base).par.orbOverflowPolicy = .dropNew ∧ (faulting (filled 1201 base)).state = .listening ∧
      1200 < (faulting (filled 1201 base)).orb.length ∧ (faulting (filled 1201 base)).par.orbOverflowPolicy = .fault := by
  simp only [filled, faulting, List.length_replicate]; decide

theorem wit_SendIdRespectsHoldoff :
    timerRunning .hold base = false ∧
      (let s := withTimer .hold 1440000 1439999 true base
       timerRunning .hold s = true ∧ timerExpired .hold s = false) ∧
      (let s := withTimer .hold 1440000 1440000 true base
       timerRunning .hold s = true ∧ timerExpired .hold s = true ∧ (s.timer .hold).dur ≠ 0) := by decide

/-- The generator `k` still wanted. -/
def wanting (k : GenId) (s : State) : State := s.setGen k { s.gen k with wanted := true }

theorem wit_KerchunkRevertsOnLostSignal :
    (inState .kerchunk).state = .kerchunk ∧
      ((inState .kerchunk).mode = modeFm ∧
        (((inState .kerchunk).gen .idgen).wanted || ((inState .kerchunk).gen .ackgen).wanted) = false) ∧
      ((wanting .ackgen (inState .kerchunk)).state = .kerchunk ∧
        (((wanting .ackgen (inState .kerchunk)).gen .idgen).wanted ||
          ((wanting .ackgen (inState .kerchunk)).gen .ackgen).wanted) = true) := by decide

theorem wit_HangResumesRelaying : (inState .hang).state = .hang := rfl

theorem wit_WaitStatesEndInHang :
    (let s := withTimer .ackDly 4 3 true (inState .relayingWait)
     s.state = .relayingWait ∧ timerExpired .ackDly s = false) ∧
    (let s := withTimer .minAck 9 8 true (withTimer .ackDly 4 4 true (inState .relayingWait))
     s.state = .relayingWait ∧ timerExpired .ackDly s = true ∧
      ¬ (timerRunning .minAck s = false ∨ timerExpired .minAck s = true)) ∧
    (let s := withTimer .minAck 9 9 true (withTimer .ackDly 4 4 true (inState .relayingWait))
     timerExpired .ackDly s = true ∧ timerRunning .minAck s = true ∧ timerExpired .minAck s = true) ∧
    (let s := withTimer .ackDly 4 4 true (inState .timeoutWait)
     s.state = .timeoutWait ∧ timerExpired .ackDly s = true) := by decide

theorem wit_IdleWhenNothingIsWanted :
    (let s := inState .listening
     s.state = .listening ∧ s.mode = modeFm ∧ (s.gen .idgen).wanted = false ∧ (s.gen .ackgen).wanted = false) ∧
    ¬ (let s := wanting .idgen (inState .listening)
       s.state = .listening ∧ s.mode = modeFm ∧ (s.gen .idgen).wanted = false ∧ (s.gen .ackgen).wanted = false) := by decide

/-- Three evaluations from RELAYING, with the carrier, without it and with it again. -/
theorem wit_PeriodicIdentificationOncePerExpiry :
    due.state ≠ .kerchunk ∧ (∀ n, (evalEach ([true, false, true].take n) due).state ≠ .listening) ∧
      (due.timer .id).run = true ∧ (due.timer .id).expired = true ∧ (due.timer .id).dur ≠ 0 ∧ (due.timer .id).off = 0 ∧
      (due.timer .hold).run = false := by
  refine ⟨by decide, fun n => ?_, by decide⟩
  match n with
  | 0 | 1 | 2 => decide
  | _ + 3 => rw [List.take_of_length_le (by simp)]; decide

/-- Without a pre-scale, and with one that clips: `30000 * 2^8 / 1` is above the sample range, `-1 * 2^8 / 3` is not. -/
theorem wit_ScalingTruncatesTowardZero :
    env0.rxPrescaleShift = 0 ∧ base.cfg.rxLevel ≠ 0 ∧
      scale { env0 with rxPrescaleShift := 8 } base.cfg 30000 = 32767 ∧
      scale { env0 with rxPrescaleShift := 8 } { base.cfg with rxLevel := 3 } (BitVec.ofInt 16 (-1)) =
        BitVec.ofInt 16 (-85) := by decide

/-- One answer and one mode for each of the five cases. -/
theorem wit_EvaluationPolicy :
    (RxAnswer.mk false true).ready = false ∧ (RxAnswer.mk true false).ready = true ∧ base.mode ≠ modeFm ∧ due.mode = modeFm := by
  decide

/-- Silent generators; and a mode FM with 2400 queued, and with 2399, under both policies. -/
theorem wit_AudioPathTrace :
    (∀ k, (due.gen k).running = false) ∧
      (filled 2400 due).mode = modeFm ∧ 2400 ≤ (filled 2400 due).orb.length ∧ ¬ 2400 ≤ (filled 2399 due).orb.length ∧
      (filled 2400 due).par.orbOverflowPolicy = .dropNew ∧ (faulting (filled 2400 due)).mode = modeFm ∧
      2400 ≤ (faulting (filled 2400 due)).orb.length ∧ (faulting (filled 2400 due)).par.orbOverflowPolicy = .fault := by
  refine ⟨fun k => by cases k <;> rfl, rfl, ?_, ?_, rfl, rfl, ?_, rfl⟩ <;>
    simp only [filled, faulting, List.length_replicate] <;> decide

/-- RELAYING with one answer waiting and nothing due. -/
def relayOne : State := withAnswers [⟨false, true⟩] (inState .relaying)

/-- The same without COS squelch, with a delay line of two samples. -/
def relayDelayed : State := { relayOne with cfg := { base.cfg with useCos := false }, irb := [4, 5] }

/-- The premises of RelayedSampleReachesOutput. -/
def relayable (s : State) (cos : Bool) : Prop :=
  (s.state = .relaying ∧ s.mode = modeFm ∧ s.cfg.rxLevel ≠ 0 ∧
    (s.cfg.useCos = true → xor cos s.cfg.cosInvert = true) ∧ (s.cfg.useCos = false → s.irb.length < Config.irbCap)) ∧
  (s.env.rx.replies = ⟨false, true⟩ :: [] ∧ (clockAll 1 s).due .timeout = false ∧ (clockAll 1 s).due .id = false) ∧
  ((s.gen .idgen).running = false ∧ (s.gen .ackgen).running = false ∧ (s.gen .totone).running = false)

/-- The same with COS squelch and the COS input inverted. -/
def relayInverted : State := { relayOne with cfg := { base.cfg with cosInvert := true } }

/-- With COS squelch, without it, and with the COS input inverted. -/
theorem wit_RelayedSampleReachesOutput :
    (relayable relayOne true ∧ relayOne.cfg.useCos = true) ∧
      (relayable relayDelayed false ∧ relayDelayed.cfg.useCos = false) ∧
      relayable relayInverted false ∧ relayInverted.cfg.useCos = true ∧ relayInverted.cfg.cosInvert = true := by
  unfold relayable
  refine ⟨⟨⟨?_, ?_, ?_⟩, ?_⟩, ⟨⟨?_, ?_, ?_⟩, ?_⟩, ⟨?_, ?_, ?_⟩, ?_, ?_⟩ <;> decide

/-- With 2399 and with 2400 queued, and with 2400 under the policy `fault`. -/
theorem wit_RelayedSampleReachesOutput_full :
    (relayable (filled 2399 relayOne) true ∧ ¬ 2400 ≤ (filled 2399 relayOne).orb.length) ∧
      (relayable (filled 2400 relayOne) true ∧ 2400 ≤ (filled 2400 relayOne).orb.length ∧
        (filled 2400 relayOne).par.orbOverflowPolicy ≠ .fault) ∧
      relayable (faulting (filled 2400 relayOne)) true ∧ 2400 ≤ (faulting (filled 2400 relayOne)).orb.length ∧
        (faulting (filled 2400 relayOne)).par.orbOverflowPolicy = .fault := by
  have h := wit_RelayedSampleReachesOutput.1.1
  simp only [filled, faulting, List.length_replicate]
  exact ⟨⟨h, by decide⟩, ⟨h, le_refl _, by decide⟩, h, le_refl _, trivial⟩

theorem wit_OneEvaluationPerNotReadyBlock :
    let s := withTone [0, 0] (withAnswers [⟨false, true⟩, ⟨false, false⟩] (quiet 2 (inState .relaying)))
    (∃ t, exec (.samples true [1, 2]) s = .next t ∧ t.state ≠ .listening) ∧ s.cfg.rxLevel ≠ 0 ∧ s.mode = modeFm ∧
      s.env.rx.replies = [⟨false, true⟩] ++ ⟨false, false⟩ :: [] ∧ ([1, 2] : List Sample).length = 1 + 1 ∧
      ∀ a ∈ [RxAnswer.mk false true] ++ [⟨false, false⟩], a.ready = false := by
  refine ⟨⟨_, rfl, by decide⟩, by decide, rfl, rfl, rfl, by decide⟩

/-- The COS input inactive, as it is with `cos_invert = 0` and as it is with 1; 41_signal_path R142's examples of `c`. -/
theorem wit_NoCarrierNoOutput :
    (base.cfg.rxLevel ≠ 0 ∧ base.state = .listening ∧ base.mode ≠ modeFm) ∧
      (base.cfg.useCos = true ∧ xor false base.cfg.cosInvert = false) ∧
      (let g : Cfg := { base.cfg with cosInvert := true }
       g.useCos = true ∧ xor true g.cosInvert = false ∧ carrier g false = true) ∧
      carrier { base.cfg with useCos := false } false = true := by decide

theorem wit_TimeoutRelaysNothing :
    let s := withTone [0] (withAnswers [⟨false, true⟩] (quiet 1 (inState .timeout)))
    s.state = .timeout ∧ s.mode = modeFm ∧ (s.cfg.useCos = true → xor true s.cfg.cosInvert = true) ∧ s.env.rx.replies = [⟨false, true⟩] ++ [] ∧
      (∃ t, exec (.samples true [1]) s = .next t) ∧ (∃ t, exec (.samples true [2]) s = .next t) ∧ s.cfg.rxLevel ≠ 0 :=
  ⟨rfl, rfl, by decide, rfl, ⟨_, rfl⟩, ⟨_, rfl⟩, by decide⟩

theorem wit_DelayLineIsFifo :
    let s := withTone [0] (withAnswers [⟨false, true⟩]
      (quiet 1 { inState .timeout with cfg := { base.cfg with useCos := false }, irb := [4, 5] }))
    (∃ t, exec (.samples true [1]) s = .next t) ∧ s.cfg.rxLevel ≠ 0 ∧ s.irb.length < Config.irbCap :=
  ⟨⟨_, rfl⟩, by decide, by decide⟩

/-- Case P3 leaves the mode not FM at the first sample of two, and the loop ends there: one sample is decoded. -/
theorem wit_DelayLineIsFifo_break :
    let s := withAnswers [⟨true, false⟩] (inState .kerchunk)
    (∃ t, exec (.samples true [1, 2]) s = .next t ∧ t.calls.filterMap processed = [1]) ∧ s.cfg.rxLevel ≠ 0 ∧
      leavesFm true ⟨true, false⟩ s :=
  ⟨⟨_, rfl, by decide⟩, by decide, by unfold leavesFm; decide⟩

theorem wit_ModeNeverOther : ∃ t, exec (.samples true []) base = .next t := ⟨_, rfl⟩

theorem wit_OverflowDropsNewSamples :
    base.state = .listening ∧ base.par.orbOverflowPolicy = .dropNew ∧
      (filled 1201 base).orb.length ≤ 2400 ∧ 1200 < (filled 1201 base).orb.length ∧
      (filled 2400 base).orb.length ≤ 2400 ∧ 1200 < (filled 2400 base).orb.length := by
  simp only [filled, List.length_replicate]; decide

theorem wit_OverflowFaultStopsSamples :
    let s := withAnswers [⟨true, true⟩] (faulting (filled 1201 base))
    s.state = .listening ∧ s.par.orbOverflowPolicy = .fault ∧ s.orb.length ≤ 2400 ∧ 1200 < s.orb.length ∧ s.cfg.rxLevel ≠ 0 ∧
      s.irb.length < Config.irbCap ∧ s.env.rx.replies = ⟨true, true⟩ :: [] ∧
      (s.cfg.useCos = true → xor true s.cfg.cosInvert = true) := by
  refine ⟨rfl, rfl, ?_, ?_, by decide, by decide, rfl, by decide⟩ <;>
    simp only [withAnswers, faulting, filled, List.length_replicate] <;> decide

theorem wit_SamplesStopsOnlyOnOverflow : ring.irb.length < Config.irbCap := wit_SamplesCompletes.2.2.1

theorem ring_inv : ring.Inv where
  lines := rfl
  ker _ := rfl
  irb := by rw [ring, List.length_replicate, Config.irbDelay]
  orb := by decide
  halt := rfl

theorem wit_StepKeepsInvariant : ring.Inv ∧ ∃ t, step ring = .next t := ⟨ring_inv, ⟨_, rfl⟩⟩

theorem wit_StepNeverStops : ring.Inv ∧ ring.par.orbOverflowPolicy = .dropNew := ⟨ring_inv, rfl⟩

/-- Both premises of the lines hold of some state: on in RELAYING, off in HANG. -/
theorem wit_StepKeepsLines :
    let s := { inState .relaying with decodeEn := true, adcDetEn := true, cmd := [0x70000001] }
    let u := { inState .hang with cmd := [0x70000001] }
    (s.LinesFollow ∧ ∃ t, step s = .next t) ∧ u.LinesFollow ∧ ∃ t, step u = .next t :=
  ⟨⟨⟨rfl, by decide, by decide⟩, ⟨_, rfl⟩⟩, ⟨rfl, by decide, by decide⟩, ⟨_, rfl⟩⟩

theorem wit_StepKeepsOffsets :
    let s := { ring with
      par := { env0 with ackDelayOffset := 600 }, tmr := (timerConfigure .ackDly 12000 600 base).tmr }
    s.OffsetsHardwired ∧ ∃ t, step s = .next t :=
  ⟨⟨fun k _ => by cases k <;> first | rfl | contradiction, .inr rfl⟩, ⟨_, rfl⟩⟩

theorem wit_OutputsShowRegisters : ring.Inv := ring_inv

end Sys2Proof.Tests
end

/-! PROOFS. The statements on single rules of the repeater state machine: SendId, the reverts of KERCHUNK and HANG, and the
post-transition rule (42_state_machine R182, R191, R196, R201). -/

namespace Sys2Proof.Machine

section Rules

variable (s : State)

/-! ### The operations the rules are made of -/

@[simp] theorem stop_stop (t : Timer) : t.stop.stop = t.stop := rfl

@[simp] theorem genStart_idgen_env :
    (genStart .idgen s).env = { s.env with idgen := (s.gen .idgen).after .idgen .start } := rfl

@[simp] theorem genStop_ackgen_env :
    (genStop .ackgen s).env = { s.env with ackgen := (s.gen .ackgen).afterStop .ackgen } := rfl

/-! ### SendId (42_state_machine R182) -/

theorem sendId_of_holdoff_stopped (running : timerRunning .hold s = false) : sendId s = genStart .idgen s := by
  simp [sendId, running]

theorem sendId_of_holdoff_pending (running : timerRunning .hold s = true) (expired : timerExpired .hold s = false) :
    sendId s = s := by
  simp [sendId, running, expired]

theorem sendId_of_holdoff_expired (running : timerRunning .hold s = true) (expired : timerExpired .hold s = true) :
    sendId s = timerStart .hold (genStart .idgen s) := by
  simp [sendId, running, expired]

/-! ### The post-transition rule (42_state_machine R201) -/

/-- The condition of the post-transition rule. -/
def State.fullyIdle (s : State) : Prop :=
  s.state = .listening ∧ s.mode = modeFm ∧ (s.gen .idgen).wanted = false ∧ (s.gen .ackgen).wanted = false

theorem fm_iff : s.fm = true ↔ s.mode = modeFm := by simp [State.fm]

/-- When the condition holds, both generators have been asked, the mode is IDLE and StopAll has run. -/
theorem postTransition_of_fullyIdle (idle : s.fullyIdle) : postTransition s =
    stopAll (setMode modeIdle ((s.record (.genIsWanted .idgen false)).record (.genIsWanted .ackgen false))) := by
  obtain ⟨listening, fm, idgen, ackgen⟩ := idle
  simp [postTransition, listening, fm_iff, fm, idgen, ackgen]

theorem postTransition_of_not_listening (h : s.state ≠ .listening) : postTransition s = s := by
  simp [postTransition, h]

/-- When the condition fails, the rule asks nobody, `idgen` alone, or both generators, and does nothing more. -/
theorem postTransition_of_not_fullyIdle (busy : ¬ s.fullyIdle) :
    postTransition s = s ∨
    postTransition s = s.record (.genIsWanted .idgen (s.gen .idgen).wanted) ∨
    postTransition s = (s.record (.genIsWanted .idgen (s.gen .idgen).wanted)).record
      (.genIsWanted .ackgen (s.gen .ackgen).wanted) := by
  by_cases asks : s.state = .listening ∧ s.fm = true
  · cases idgen : (s.gen .idgen).wanted
    · cases ackgen : (s.gen .ackgen).wanted
      · exact absurd ⟨asks.1, (fm_iff s).1 asks.2, idgen, ackgen⟩ busy
      · exact .inr (.inr (by simp [postTransition, asks, idgen, ackgen]))
    · exact .inr (.inl (by simp [postTransition, asks, idgen]))
  · exact .inl (if_neg asks)

@[simp] theorem postTransition_res : (postTransition s).res = s.res := (postTransition_run s).res
@[simp] theorem postTransition_payload : (postTransition s).payload = s.payload := (postTransition_run s).payload
@[simp] theorem postTransition_cmd : (postTransition s).cmd = s.cmd := (postTransition_run s).cmd

theorem postTransition_mode_of_fullyIdle (idle : s.fullyIdle) : (postTransition s).mode = modeIdle := by
  simp [postTransition_of_fullyIdle s idle]

theorem postTransition_timer_of_fullyIdle (idle : s.fullyIdle) (k : TimerId) :
    (postTransition s).timer k = (stopAll s).timer k := by
  rw [postTransition_of_fullyIdle s idle]
  exact (stopAll_timer _ k).trans (stopAll_timer s k).symm

theorem postTransition_eq_of_fullyIdle (idle : s.fullyIdle) :
    postTransition s = { s with mode := modeIdle, tmr := (stopAll s).tmr, calls := (postTransition s).calls } := by
  apply State.ext
  case mode => exact postTransition_mode_of_fullyIdle s idle
  case tmr => exact tmr_ext (postTransition_timer_of_fullyIdle s idle)
  all_goals simp

theorem postTransition_eq_of_not_fullyIdle (busy : ¬ s.fullyIdle) :
    postTransition s = { s with calls := (postTransition s).calls } := by
  rcases postTransition_of_not_fullyIdle s busy with h | h | h <;> rw [h] <;> rfl

theorem postTransition_mode_of_not_fullyIdle (busy : ¬ s.fullyIdle) : (postTransition s).mode = s.mode := by
  rw [postTransition_eq_of_not_fullyIdle s busy]

theorem postTransition_timer_of_not_fullyIdle (busy : ¬ s.fullyIdle) (k : TimerId) :
    (postTransition s).timer k = s.timer k := by
  rw [postTransition_eq_of_not_fullyIdle s busy]
  rfl

/-- A timer that does not run is left as it is: all that the rule does to a timer is to stop it. -/
theorem postTransition_timer_of_stopped (k : TimerId) (stopped : (s.timer k).stop = s.timer k) :
    (postTransition s).timer k = s.timer k := by
  by_cases idle : s.fullyIdle
  · rw [postTransition_timer_of_fullyIdle s idle, stopAll_timer, stopped, ite_self]
  · exact postTransition_timer_of_not_fullyIdle s idle k

/-- The only calls of the rule ask `idgen` and `ackgen` whether they are wanted. -/
theorem postTransition_asks : ∃ asked : List Call, (postTransition s).calls = asked ++ s.calls ∧
    ∀ e ∈ asked, e = .genIsWanted .idgen (s.gen .idgen).wanted ∨ e = .genIsWanted .ackgen (s.gen .ackgen).wanted := by
  by_cases idle : s.fullyIdle
  · refine ⟨[.genIsWanted .ackgen false, .genIsWanted .idgen false], by simp [postTransition_of_fullyIdle s idle], ?_⟩
    obtain ⟨-, -, idgen, ackgen⟩ := idle
    simp [idgen, ackgen]
  · rcases postTransition_of_not_fullyIdle s idle with h | h | h
    · exact ⟨[], by simp [h]⟩
    · exact ⟨[.genIsWanted .idgen (s.gen .idgen).wanted], by simp [h]⟩
    · exact ⟨[.genIsWanted .ackgen (s.gen .ackgen).wanted, .genIsWanted .idgen (s.gen .idgen).wanted], by simp [h]⟩

/-- The rule starts and stops no generator. -/
theorem postTransition_commands :
    (postTransition s).calls.filter (·.isCommand) = s.calls.filter (·.isCommand) := by
  obtain ⟨asked, calls, isWanted⟩ := postTransition_asks s
  have silent : asked.filter (·.isCommand) = [] := List.filter_eq_nil_iff.2 fun e he => by
    rcases isWanted e he with rfl | rfl <;> simp [Call.isCommand]
  rw [calls, List.filter_append, silent, List.nil_append]

/-! ### KERCHUNK with the signal lost (42_state_machine R191) -/

/-- The four timers that the revert stops. -/
theorem kerchunk_lost_timer (k : TimerId) : (kerchunk false s).timer k =
    if k = .ker ∨ k = .timeout ∨ k = .minAck ∨ k = .id then (s.timer k).stop else s.timer k := by
  cases k <;> simp [kerchunk]

/-- The revert is traced and makes no other call. -/
theorem kerchunk_lost_commands : (kerchunk false s).calls.filter (·.isCommand) = s.calls.filter (·.isCommand) := by
  by_cases h : s.state = .listening <;> simp [kerchunk, setCtl_calls, h, Call.isCommand]

theorem kerchunk_lost_fullyIdle_iff : (kerchunk false s).fullyIdle ↔
    s.mode = modeFm ∧ ((s.gen .idgen).wanted || (s.gen .ackgen).wanted) = false := by
  simp [State.fullyIdle, kerchunk]

/-- The mode after the revert and the post-transition rule. -/
theorem kerchunk_lost_postTransition_mode : (postTransition (kerchunk false s)).mode =
    if s.mode = modeFm ∧ ((s.gen .idgen).wanted || (s.gen .ackgen).wanted) = false then modeIdle else s.mode := by
  by_cases idle : (kerchunk false s).fullyIdle
  · rw [postTransition_mode_of_fullyIdle _ idle, if_pos ((kerchunk_lost_fullyIdle_iff s).1 idle)]
  · rw [postTransition_mode_of_not_fullyIdle _ idle, if_neg (mt (kerchunk_lost_fullyIdle_iff s).2 idle)]
    simp [kerchunk]

theorem eval_kerchunk (h : s.state = .kerchunk) (v : Bool) : eval v s = postTransition (kerchunk v s) := by
  simp [eval, handler, h]

/-! ### HANG with a new transmission (42_state_machine R196) -/

theorem hang_resumed : hang true s = { s with
    decodeEn := true, adcDetEn := true, state := .relaying, tmr := (hang true s).tmr,
    env := { s.env with ackgen := (s.gen .ackgen).afterStop .ackgen }, calls := (hang true s).calls } := by
  apply State.ext <;> simp [hang, beginRelaying]

/-- The two timers that BeginRelaying restarts (42_state_machine R183). -/
theorem beginRelaying_timer (k : TimerId) : (beginRelaying s).timer k =
    if k = .timeout ∨ k = .minAck then (s.timer k).start else s.timer k := by
  cases k <;> simp [beginRelaying]

/-- The acknowledgement is stopped; nothing else is called but the trace. -/
theorem hang_resumed_calls :
    (hang true s).calls.filter (!·.isTrace) = .genStop .ackgen :: s.calls.filter (!·.isTrace) := by
  by_cases h : s.state = .relaying <;> simp [hang, setCtl_calls, h, Call.isTrace]

/-- No post-transition rule applies: the evaluation ends in RELAYING. -/
theorem eval_hang_resumed (h : s.state = .hang) : eval true s = idRepeatCheck (hang true s) := by
  have relays : (idRepeatCheck (hang true s)).state ≠ .listening := by simp [hang]
  simp [eval, handler, h, postTransition_of_not_listening _ relays]

end Rules

/-! ### The obligations -/

/-- Settles O35, by the three cases of the holdoff timer. -/
theorem sendIdRespectsHoldoff : Obligations.SendIdRespectsHoldoff := by
  intro s
  refine ⟨sendId_of_holdoff_stopped s, sendId_of_holdoff_pending s, fun running expired => ⟨?_, fun k => ?_⟩⟩
  · rw [sendId_of_holdoff_expired s running expired]
    apply State.ext <;> simp
  · simp [sendId_timer, running, expired]

/-- Settles O36: the revert, then the post-transition rule, which takes the mode and the other timers only in its idle
case. -/
theorem kerchunkRevertsOnLostSignal : Obligations.KerchunkRevertsOnLostSignal := by
  intro s h wanted
  rw [eval_kerchunk s h]
  refine ⟨?_, fun k stops => ?_, fun stillWanted => ?_,
    (postTransition_commands _).trans (kerchunk_lost_commands s)⟩
  · apply State.ext
    case mode => exact kerchunk_lost_postTransition_mode s
    all_goals simp [kerchunk]
  · have revert : (kerchunk false s).timer k = (s.timer k).stop := by rw [kerchunk_lost_timer, if_pos stops]
    rw [postTransition_timer_of_stopped _ k (by rw [revert, stop_stop]), revert]
  · have busy : ¬ (kerchunk false s).fullyIdle := by
      rw [kerchunk_lost_fullyIdle_iff]
      rintro ⟨fm, unwanted⟩
      rcases stillWanted with other | asked
      · exact other fm
      · exact absurd (asked.symm.trans unwanted) (by decide)
    simp [postTransition_timer_of_not_fullyIdle _ busy, kerchunk_lost_timer]

/-- Settles O37: the evaluation is the handler's resumption followed by the identification check. -/
theorem hangResumesRelaying : Obligations.HangResumesRelaying := by
  intro s h
  refine ⟨hang true s, eval_hang_resumed s h, hang_resumed s, hang_resumed_calls s, fun k => ?_⟩
  simp [hang, beginRelaying_timer]

/-- Settles O39, by the two cases of the rule's condition. -/
theorem idleWhenNothingIsWanted : Obligations.IdleWhenNothingIsWanted := fun s _ =>
  ⟨rfl, postTransition_eq_of_fullyIdle s, postTransition_eq_of_not_fullyIdle s, postTransition_asks s⟩

end Sys2Proof.Machine

/-! PROOFS. The statements on the decoder and the step (30_encoding R90 to R101): rows of the opcode map as fields of word 0,
what a decoded packet is made of, and the three kinds of step. -/

namespace Sys2Proof

/-! ### A row of the opcode map, field by field -/

theorem getLsbD_field (w : CmdWord) (lo len i : Nat) :
    (field w lo len).getLsbD i = (decide (i < len) && w.getLsbD (lo + i)) := by
  simp [field, BitVec.getLsbD_extractLsb']

/-- A mask of the opcode and of one further field, whose pattern has zero in that field, asks for the pattern's opcode and for
zero in the field. -/
theorem masked_iff_fields {w m p : CmdWord} {lo len : Nat} (inside : lo + len ≤ 28)
    (mask : ∀ i < 32, m.getLsbD i = decide (28 ≤ i ∨ lo ≤ i ∧ i < lo + len)) (zero : ∀ i < 28, p.getLsbD i = false) :
    w &&& m = p ↔ field w 28 4 = field p 28 4 ∧ field w lo len = 0 := by
  constructor
  · rintro rfl
    constructor <;> apply BitVec.eq_of_getLsbD_eq <;> intro i hi
    · simp only [getLsbD_field, BitVec.getLsbD_and, mask (28 + i) (by omega), Nat.le_add_right, true_or, decide_true,
        Bool.and_true]
    · have masked := zero (lo + i) (by omega)
      rw [BitVec.getLsbD_and, mask _ (by omega)] at masked
      simpa only [getLsbD_field, hi, Nat.le_add_right, Nat.add_lt_add_left hi lo, and_self, or_true, decide_true,
        Bool.and_true, Bool.true_and, BitVec.ofNat_eq_ofNat, BitVec.getLsbD_zero] using masked
  · rintro ⟨opcode, empty⟩
    apply BitVec.eq_of_getLsbD_eq
    intro i hi
    rw [BitVec.getLsbD_and, mask i hi]
    by_cases high : 28 ≤ i
    · have bit := congrArg (BitVec.getLsbD · (i - 28)) opcode
      simpa only [getLsbD_field, show i - 28 < 4 by omega, Nat.add_sub_cancel' high, high, true_or, decide_true, Bool.and_true,
        Bool.true_and] using bit
    · rw [zero i (by omega)]
      by_cases hf : lo ≤ i ∧ i < lo + len
      · have bit := congrArg (BitVec.getLsbD · (i - lo)) empty
        simpa only [getLsbD_field, show i - lo < len by omega, Nat.add_sub_cancel' hf.1, hf, and_self, or_true, decide_true,
          Bool.and_true, Bool.true_and, BitVec.ofNat_eq_ofNat, BitVec.getLsbD_zero] using bit
      · simp [high, hf]

/-- A row that selects a word has the word's opcode. -/
theorem opcode_of_selects {r : Row} (hr : r ∈ opcodeTable) {w : CmdWord} (h : r.selects w = true) :
    field r.pattern 28 4 = field w 28 4 := by
  have mask : ∀ r ∈ opcodeTable, ∀ i < 4, r.mask.getLsbD (28 + i) = true := by decide
  rw [← beq_iff_eq.1 h]
  apply BitVec.eq_of_getLsbD_eq
  intro i hi
  simp [getLsbD_field, mask r hr i hi]

/-- The rows differ in their opcodes. -/
theorem row_eq_of_opcode_eq : ∀ r ∈ opcodeTable, ∀ q ∈ opcodeTable,
    field r.pattern 28 4 = field q.pattern 28 4 → r = q := by decide

/-- "The rows are pairwise disjoint because the opcodes differ" (30_encoding R98). -/
theorem row_eq_of_selects {r q : Row} (hr : r ∈ opcodeTable) (hq : q ∈ opcodeTable) {w : CmdWord}
    (h : r.selects w = true) (h' : q.selects w = true) : r = q :=
  row_eq_of_opcode_eq r hr q hq ((opcode_of_selects hr h).trans (opcode_of_selects hq h').symm)

/-- A legal word 0 is one that some row selects (30_encoding R91, R98). -/
theorem legalWord_iff_selected (w : CmdWord) : Machine.legalWord w ↔ ∃ r ∈ opcodeTable, r.selects w = true := by
  have opcode (n : Nat) (hn : n < 16) : (field w 28 4).toNat = n ↔ field w 28 4 = BitVec.ofNat 4 n := by
    rw [← BitVec.toNat_inj, BitVec.toNat_ofNat, Nat.mod_eq_of_lt hn]
  simp only [opcodeTable, List.exists_mem_cons_iff, List.not_mem_nil, false_and, exists_false, or_false, Row.selects, beq_iff_eq,
    Machine.legalWord]
  rw [masked_iff_fields (lo := 0) (len := 28), masked_iff_fields (lo := 16) (len := 9),
    masked_iff_fields (lo := 0) (len := 28), masked_iff_fields (lo := 24) (len := 2),
    masked_iff_fields (lo := 8) (len := 19), masked_iff_fields (lo := 0) (len := 28),
    masked_iff_fields (lo := 2) (len := 26), opcode 1, opcode 2, opcode 3, opcode 4, opcode 5, opcode 6, opcode 7]
  · rfl
  all_goals decide

theorem selectOp_eq_none_iff (w : CmdWord) : selectOp w = none ↔ ¬ Machine.legalWord w := by
  simp [selectOp, legalWord_iff_selected]

/-- A legal word selects the operation of the row with its opcode. -/
theorem selectOp_of_legal {w : CmdWord} (h : Machine.legalWord w) :
    ∃ r ∈ opcodeTable, selectOp w = some r.op ∧ field r.pattern 28 4 = field w 28 4 := by
  cases hf : opcodeTable.find? (·.selects w) with
  | none => exact absurd h ((selectOp_eq_none_iff w).1 (by simp [selectOp, hf]))
  | some r =>
    have hr := List.mem_of_find?_eq_some hf
    exact ⟨r, hr, by simp [selectOp, hf], opcode_of_selects hr (List.find?_some (p := fun r : Row => r.selects w) hf)⟩

/-! ### What a decoded packet is made of -/

theorem decodePacket_of_illegal {w : CmdWord} (h : ¬ Machine.legalWord w) (ops : List CmdWord) :
    decodePacket (w :: ops) = .illegal (rejection w) ops := by
  simp [decodePacket, (selectOp_eq_none_iff w).2 h]

/-- With enough words behind it, a legal word 0 takes as many as it announces (30_encoding R101). -/
theorem decodePacket_of_complete {w : CmdWord} {op : Op} (h : selectOp w = some op) {ops : List CmdWord}
    (hn : ops.length = operandWords w) (rest : List CmdWord) :
    decodePacket (w :: ops ++ rest) = .instr (assemble op w ops) rest := by
  simp [decodePacket, h, ← hn]

theorem decodePacket_of_incomplete {w : CmdWord} (h : Machine.legalWord w) {ops : List CmdWord}
    (hn : ops.length < operandWords w) : decodePacket (w :: ops) = .wait := by
  obtain ⟨r, -, hs, -⟩ := selectOp_of_legal h
  simp [decodePacket, hs, hn]

/-- An operation is decoded from a selected word 0 and exactly the operand words it announces. -/
theorem exists_of_decodePacket_eq_instr {w : CmdWord} {ops rest : List CmdWord} {i : Instr}
    (h : decodePacket (w :: ops) = .instr i rest) : ∃ op taken, selectOp w = some op ∧ ops = taken ++ rest ∧
      taken.length = operandWords w ∧ i = assemble op w taken := by
  cases hs : selectOp w with
  | none => simp [decodePacket, hs] at h
  | some op =>
    by_cases hn : ops.length < operandWords w
    · simp [decodePacket, hs, hn] at h
    · simp only [decodePacket, hs, hn, if_false, Decoded.instr.injEq] at h
      obtain ⟨rfl, rfl⟩ := h
      exact ⟨op, _, rfl, (List.take_append_drop _ _).symm, by simp; omega, rfl⟩

/-- The operands read back from an operation's own packet (30_encoding R92 to R97). -/
theorem assemble_encode (i : Instr) : assemble (Laws.HeadWord.op i) (encodeHead i) (encodeOperands i) = i := by
  cases i with
  | reset | drain | setAck m d => rfl
  | setCallsign s e l h r =>
    obtain ⟨-, hs, he, hl, hh, hr⟩ := head_setCallsign s e l h r
    simp only [assemble, Laws.HeadWord.op, hs, he, hl, hh, hr]
  | setMisc c v b x o k h =>
    obtain ⟨-, hc, hv, hb, hx⟩ := head_setMisc c v b x o k h
    simp only [assemble, Laws.HeadWord.op, encodeOperands, hc, hv, hb, hx]
    rfl
  | samples c l =>
    obtain ⟨-, hc, -⟩ := head_samples c l
    have used : (fun w => field w 0 16) ∘ (fun x : Sample => 0#16 ++ x) = id := funext field_sample
    simp only [assemble, Laws.HeadWord.op, encodeOperands, hc, List.map_map, used, List.map_id]
  | modeWr m =>
    obtain ⟨-, hm⟩ := head_modeWr m
    simp [assemble, Laws.HeadWord.op, hm]

/-- An operation's word 0 selects its row and announces its operand words. -/
theorem headWord (i : Instr) : Laws.HeadWord.Statement i := by
  cases i with
  | reset => exact Laws.HeadWord.reset
  | setCallsign s e l h r => exact Laws.HeadWord.setCallsign s e l h r
  | setAck m d => exact Laws.HeadWord.setAck m d
  | setMisc c v b x o k h => exact Laws.HeadWord.setMisc c v b x o k h
  | samples c l => exact Laws.HeadWord.samples c l
  | drain => exact Laws.HeadWord.drain
  | modeWr m => exact Laws.HeadWord.modeWr m

/-- Settles O1: nine packets, decoded. -/
theorem specWordsDecode : Obligations.SpecWordsDecode := by
  unfold Obligations.SpecWordsDecode
  decide

/-- Settles O2: word 0 selects the operation's row and announces its operand words, from which the operands are read back. -/
theorem decodeEncodeRoundTrip : Obligations.DecodeEncodeRoundTrip := by
  intro i rest wf
  obtain ⟨selected, announced⟩ := headWord i
  rw [encode, decodePacket_of_complete selected (announced wf).symm, assemble_encode]

/-- Settles O3: the rows of the opcode map select exactly the legal words. -/
theorem illegalExactlyByOpcodeOrZeroField : Obligations.IllegalExactlyByOpcodeOrZeroField := by
  refine fun w ops => ⟨fun legal why rest h => ?_, fun illegal => ⟨_, decodePacket_of_illegal illegal ops⟩⟩
  obtain ⟨r, -, hs, -⟩ := selectOp_of_legal legal
  simp only [decodePacket, hs] at h
  split at h <;> cases h

/-- Settles O4. -/
theorem opcodeRowsDisjoint : Obligations.OpcodeRowsDisjoint := fun _ _ hr _ hq h h' => row_eq_of_selects hr hq h h'

/-- Settles O5, by the operation that word 0 selects. -/
theorem packetLengthFromWordZero : Obligations.PacketLengthFromWordZero := by
  intro w ops rest i h
  obtain ⟨op, taken, hs, rfl, hn, rfl⟩ := exists_of_decodePacket_eq_instr h
  have short : (field w 0 8).toNat ≤ Config.blockMax := Nat.le_of_lt_succ (field w 0 8).isLt
  simp only [operandWords, hs] at hn
  refine ⟨?_, taken, rfl, ?_⟩ <;> cases op <;> simp_all [assemble, Instr.wellFormed]

theorem selectOp_samples {w : CmdWord} (legal : Machine.legalWord w) (h : (field w 28 4).toNat = 5) :
    selectOp w = some .samples := by
  have only : ∀ r ∈ opcodeTable, (field r.pattern 28 4).toNat = 5 → r.op = .samples := by decide
  obtain ⟨r, hr, hs, ho⟩ := selectOp_of_legal legal
  rw [hs, only r hr (by rw [ho, h])]

/-- Settles O6: the operands are assembled from the used halves alone. -/
theorem sampleHighHalvesIgnored : Obligations.SampleHighHalvesIgnored := by
  intro w ops ops' rest legal h hn same
  have hs := selectOp_samples legal h
  have announced : operandWords w = (field w 0 8).toNat := by simp only [operandWords, hs]
  have hn' : ops'.length = ops.length := by simpa using congrArg List.length same.symm
  have first := decodePacket_of_complete hs (hn.trans announced.symm) rest
  refine ⟨?_, first⟩
  rw [first, decodePacket_of_complete hs ((hn'.trans hn).trans announced.symm)]
  simp only [assemble, same]

end Sys2Proof

namespace Sys2Proof.Machine

/-! ### The step -/

theorem step_of_decoded {s : State} {i : Instr} {rest : List CmdWord} (h : decodePacket s.cmd = .instr i rest) :
    step s = exec i { s with cmd := rest } := by
  simp only [step, h]

theorem step_of_wait {s : State} (h : decodePacket s.cmd = .wait) : step s = .next s := by
  simp only [step, h]

/-- How many words must follow a legal word 0, by its opcode (30_encoding R101). -/
theorem operandWords_of_legal {w : CmdWord} (legal : legalWord w) : operandWords w =
    (if (field w 28 4).toNat = 3 then 2 else if (field w 28 4).toNat = 4 then 3
      else if (field w 28 4).toNat = 5 then (field w 0 8).toNat else 0) := by
  obtain ⟨r, hr, hs, ho⟩ := selectOp_of_legal legal
  simp only [operandWords, hs, ← ho]
  simp only [opcodeTable, List.mem_cons, List.not_mem_nil, or_false] at hr
  rcases hr with rfl | rfl | rfl | rfl | rfl | rfl | rfl <;> rfl

/-- Settles O7. -/
theorem stepRunsDecodedOperation : Obligations.StepRunsDecodedOperation := fun _ _ _ h => step_of_decoded h

/-- Settles O8: an illegal word decodes to a rejection that consumes it alone. -/
theorem stepRefusesIllegalWord : Obligations.StepRefusesIllegalWord := by
  intro s w ops h illegal
  simp only [step, h, decodePacket_of_illegal illegal]
  rfl

/-- Settles O9: fewer words than word 0 announces decode to a wait. -/
theorem stepWaitsForMissingWords : Obligations.StepWaitsForMissingWords := by
  refine fun s => ⟨fun h => step_of_wait (by rw [h]; rfl), fun w ops h legal => ?_⟩
  intro op missing
  apply step_of_wait
  rw [h, decodePacket_of_incomplete legal (by rw [operandWords_of_legal legal]; exact missing)]

end Sys2Proof.Machine

/-! PROOFS. The statements on the timer set (40_timers R122 to R128). -/

namespace Sys2Proof.Machine

/-! ### One timer -/

theorem start_of_dur_eq_zero {t : Timer} (h : t.dur = 0) : t.start = t := by
  simp [Timer.start, h]

theorem start_of_dur_ne_zero {t : Timer} (h : t.dur ≠ 0) : t.start = { t with run := true, el := t.off } := by
  have positive : 0#32 < t.dur := (BitVec.pos_iff_ne_zero _).2 h
  simp [Timer.start, positive]

theorem satadd32_toNat (a : Ticks) (n : Nat) : (satadd32 a n).toNat = min (a.toNat + n) (2 ^ 32 - 1) := by
  rw [satadd32, BitVec.toNat_ofNat]
  omega

theorem clock_el_toNat (n : Nat) (t : Timer) :
    (t.clock n).el.toNat = if t.run then min (t.el.toNat + n) (2 ^ 32 - 1) else t.el.toNat := by
  unfold Timer.clock
  split
  · exact satadd32_toNat _ _
  · rfl

theorem expired_iff (t : Timer) : t.expired = true ↔ t.dur.toNat ≤ t.el.toNat := by
  simp [Timer.expired, BitVec.le_def]

/-- The elapsed counter never runs back: a clocked timer that had expired has expired (40_timers R124, R125). -/
theorem clock_expired {t : Timer} (h : t.expired = true) (n : Nat) : (t.clock n).expired = true := by
  rw [expired_iff] at h ⊢
  rw [clock_dur, clock_el_toNat]
  have := t.el.isLt
  split <;> omega

theorem foldl_clock_expired (ns : List Nat) {t : Timer} (h : t.expired = true) :
    (ns.foldl (fun t n => t.clock n) t).expired = true := by
  induction ns generalizing t with
  | nil => exact h
  | cons n ns ih => exact ih (clock_expired h n)

/-! ### The set: each primitive writes the timers alone -/

theorem timerStart_eq (k : TimerId) (s : State) : timerStart k s = { s with tmr := (timerStart k s).tmr } := rfl

theorem clockAll_eq (n : Nat) (s : State) : clockAll n s = { s with tmr := (clockAll n s).tmr } := rfl

theorem stopAll_eq (s : State) : stopAll s = { s with tmr := (stopAll s).tmr } := by
  apply State.ext <;> simp

/-- Settles O25, by whether the duration is zero. -/
theorem startIsGuarded : Obligations.StartIsGuarded := fun s k =>
  ⟨timerStart_eq k s, fun j hj => by simp [hj], by simp, start_of_dur_eq_zero, start_of_dur_ne_zero⟩

/-- Settles O26. -/
theorem clockAllAdvancesRunningTimers : Obligations.ClockAllAdvancesRunningTimers := fun s n k =>
  ⟨clockAll_timer s n k, Timer.ext (clock_dur n _) (clock_off n _) rfl (clock_run n _), clock_el_toNat n _, clockAll_eq n s⟩

/-- Settles O27: the counter never runs back, and Stop leaves it alone. -/
theorem expiredStaysExpired : Obligations.ExpiredStaysExpired := fun _ _ ns =>
  ⟨expired_iff _, rfl, rfl, rfl, fun h => ⟨foldl_clock_expired ns h, foldl_clock_expired ns h⟩⟩

/-- Settles O28, by the parameter. -/
theorem stopAllByParameter : Obligations.StopAllByParameter := by
  refine fun s => ⟨stopAll_eq s, fun k => ?_⟩
  rw [stopAll_timer]
  split <;> rfl

end Sys2Proof.Machine

/-! PROOFS. The statements on one evaluation of the state machine against the transition table (42_state_machine R180 to R202):
what a handler can do, row by row, and from it each column of the table. -/

namespace Sys2Proof.Machine

/-! ### The handler, row by row -/

/-- What the handler makes of `s` with validity `v`: one constructor per row of 42_state_machine R202, its guards as premises
and the actions of its rule as they stand. -/
inductive HandlerRow (s : State) : Bool → State → Prop
  | listens (h : s.state = .listening) : HandlerRow s false s
  | keysUp (h : s.state = .listening) (hk : 0#32 < (s.timer .ker).dur) (u : State)
      (hu : u = timerStart .ker (setCtl .kerchunk s)) :
      HandlerRow s true (keyUp (if s.cfg.atStart && !s.cfg.atLatch then sendId u else u))
  | keysUpWithoutKerchunk (h : s.state = .listening) (hk : ¬ 0#32 < (s.timer .ker).dur) (u : State)
      (hu : u = setCtl .relaying s) : HandlerRow s true (keyUp (if s.cfg.atStart then sendId u else u))
  | kerchunks (h : s.state = .kerchunk) (hk : timerExpired .ker s = false) : HandlerRow s true s
  | passesKerchunk (h : s.state = .kerchunk) (hk : timerExpired .ker s = true) (u : State)
      (hu : u = timerStop .ker (setCtl .relaying s)) :
      HandlerRow s true (if s.cfg.atStart && s.cfg.atLatch then timerStart .id (sendId u) else u)
  | revertsKerchunk (h : s.state = .kerchunk) : HandlerRow s false
      (timerStop .id (timerStop .minAck (timerStop .timeout (timerStop .ker (setLines false (setCtl .listening s))))))
  | timesOut (h : s.state = .relaying) (hk : s.due .timeout = true) :
      HandlerRow s true (idRepeatCheck (genStart .totone (timerStop .timeout (timerStop .minAck (setCtl .timeout s)))))
  | relays (h : s.state = .relaying) (hk : s.due .timeout = false) : HandlerRow s true (idRepeatCheck s)
  | losesRelayed (h : s.state = .relaying) :
      HandlerRow s false (idRepeatCheck (timerStart .ackDly (setCtl .relayingWait (setLines false s))))
  | regainsRelayed (h : s.state = .relayingWait) :
      HandlerRow s true (idRepeatCheck (timerStop .ackDly (setCtl .relaying (setLines true s))))
  | endsRelayed (h : s.state = .relayingWait) (hk : timerExpired .ackDly s = true) : HandlerRow s false
      (idRepeatCheck (timerStart .hang (timerStop .timeout (timerStop .ackDly (ackIfEarned (setCtl .hang s))))))
  | awaitsRelayed (h : s.state = .relayingWait) (hk : timerExpired .ackDly s = false) :
      HandlerRow s false (idRepeatCheck s)
  | staysTimedOut (h : s.state = .timeout) : HandlerRow s true (idRepeatCheck s)
  | losesTimedOut (h : s.state = .timeout) :
      HandlerRow s false (idRepeatCheck (timerStart .ackDly (setCtl .timeoutWait (setLines false s))))
  | regainsTimedOut (h : s.state = .timeoutWait) :
      HandlerRow s true (idRepeatCheck (timerStop .ackDly (setCtl .timeout (setLines true s))))
  | endsTimedOut (h : s.state = .timeoutWait) (hk : timerExpired .ackDly s = true) : HandlerRow s false
      (idRepeatCheck (timerStart .hang (timerStop .timeout (timerStop .minAck (timerStop .ackDly
        (genStart .ackgen (genStop .totone (setCtl .hang s))))))))
  | awaitsTimedOut (h : s.state = .timeoutWait) (hk : timerExpired .ackDly s = false) :
      HandlerRow s false (idRepeatCheck s)
  | resumes (h : s.state = .hang) : HandlerRow s true
      (idRepeatCheck (beginRelaying (genStop .ackgen (setCtl .relaying (setLines true s)))))
  | ends (h : s.state = .hang) (hk : timerExpired .hang s = true) (u : State)
      (hu : u = timerStop .hang (setCtl .listening s)) :
      HandlerRow s false (timerStop .id (if s.cfg.atEnd then sendId u else u))
  | hangs (h : s.state = .hang) (hk : timerExpired .hang s = false) : HandlerRow s false (idRepeatCheck s)

theorem due_eq (k : TimerId) (s : State) : (timerRunning k s && timerExpired k s) = s.due k := rfl

theorem idRepeatCheck_of_due {s : State} (h : s.due .id = true) : idRepeatCheck s = timerStart .id (sendId s) := if_pos h

theorem idRepeatCheck_of_not_due {s : State} (h : s.due .id = false) : idRepeatCheck s = s := by
  rw [idRepeatCheck, due_eq, h]
  rfl

/-- The repeat timer that was just stopped is not due. -/
theorem idRepeatCheck_timerStop (s : State) : idRepeatCheck (timerStop .id s) = timerStop .id s :=
  idRepeatCheck_of_not_due (by simp [State.due, timerRunning])

section Rows

variable (s : State) (v : Bool)

/-- The handler of the state at entry follows the table (42_state_machine R186 to R200). -/
theorem handler_row : HandlerRow s v (handler v s) := by
  cases h : s.state with
  | listening =>
    cases v with
    | false => simpa [handler, h, listening] using HandlerRow.listens h
    | true =>
      by_cases hk : 0#32 < (s.timer .ker).dur
      · simpa [handler, h, listening, hk] using HandlerRow.keysUp h hk _ rfl
      · simpa [handler, h, listening, hk] using HandlerRow.keysUpWithoutKerchunk h hk _ rfl
  | kerchunk =>
    cases v with
    | false => simpa [handler, h, kerchunk] using HandlerRow.revertsKerchunk h
    | true =>
      cases hk : timerExpired .ker s with
      | false => simpa [handler, h, kerchunk, hk] using HandlerRow.kerchunks h hk
      | true => simpa [handler, h, kerchunk, hk] using HandlerRow.passesKerchunk h hk _ rfl
  | relaying =>
    cases v with
    | false => simpa [handler, h, relaying] using HandlerRow.losesRelayed h
    | true =>
      cases hk : s.due .timeout with
      | false => simpa [handler, h, relaying, due_eq, hk] using HandlerRow.relays h hk
      | true => simpa [handler, h, relaying, due_eq, hk] using HandlerRow.timesOut h hk
  | relayingWait =>
    cases v with
    | true => simpa [handler, h, relayingWait] using HandlerRow.regainsRelayed h
    | false =>
      cases hk : timerExpired .ackDly s with
      | false => simpa [handler, h, relayingWait, hk] using HandlerRow.awaitsRelayed h hk
      | true => simpa [handler, h, relayingWait, hk] using HandlerRow.endsRelayed h hk
  | timeout =>
    cases v with
    | true => simpa [handler, h, timeout] using HandlerRow.staysTimedOut h
    | false => simpa [handler, h, timeout] using HandlerRow.losesTimedOut h
  | timeoutWait =>
    cases v with
    | true => simpa [handler, h, timeoutWait] using HandlerRow.regainsTimedOut h
    | false =>
      cases hk : timerExpired .ackDly s with
      | false => simpa [handler, h, timeoutWait, hk] using HandlerRow.awaitsTimedOut h hk
      | true => simpa [handler, h, timeoutWait, hk] using HandlerRow.endsTimedOut h hk
  | hang =>
    cases v with
    | true => simpa [handler, h, hang] using HandlerRow.resumes h
    | false =>
      cases hk : timerExpired .hang s with
      | false => simpa [handler, h, hang, hk] using HandlerRow.hangs h hk
      | true => simpa [handler, h, hang, hk, idRepeatCheck_timerStop] using HandlerRow.ends h hk _ rfl

end Rows

/-! ### Timers after the helpers -/

section Helpers

variable (s : State)

theorem ite_timer (c : Prop) [Decidable c] (t u : State) (k : TimerId) :
    (if c then t else u).timer k = if c then t.timer k else u.timer k := apply_ite (State.timer k) c t u

theorem idRepeatCheck_timer (k : TimerId) : (idRepeatCheck s).timer k =
    if s.due .id = true ∧ (k = .id ∨ k = .hold ∧ s.due .hold = true) then (s.timer k).start else s.timer k := by
  cases hk : s.due .id with
  | false => simp [idRepeatCheck_of_not_due hk]
  | true => cases k <;> simp [idRepeatCheck_of_due hk, sendId_timer, State.due]

theorem ackIfEarned_timer (k : TimerId) : (ackIfEarned s).timer k =
    if k = .minAck ∧ (!timerRunning .minAck s || timerExpired .minAck s) = true then (s.timer k).stop else s.timer k := by
  unfold ackIfEarned
  split <;> cases k <;> simp_all

end Helpers

/-! ### The columns of the table -/

section Columns

variable {s t : State} {v : Bool}

theorem HandlerRow.state (row : HandlerRow s v t) : t.state = nextCtl s v := by
  cases row <;> simp_all [nextCtl, apply_ite State.state]

theorem HandlerRow.decodeEn (row : HandlerRow s v t) : t.decodeEn = (linesWritten s.state v).getD s.decodeEn := by
  cases row <;> simp_all [linesWritten, apply_ite State.decodeEn]

theorem HandlerRow.adcDetEn (row : HandlerRow s v t) : t.adcDetEn = (linesWritten s.state v).getD s.adcDetEn := by
  cases row <;> simp_all [linesWritten, apply_ite State.adcDetEn]

theorem HandlerRow.mode (row : HandlerRow s v t) :
    t.mode = if s.state = .listening ∧ v = true then modeFm else s.mode := by
  cases row <;> simp_all [apply_ite State.mode]

theorem HandlerRow.filt (row : HandlerRow s v t) : t.filt = s.filt := by
  cases row <;> simp_all [apply_ite State.filt]

theorem HandlerRow.irb (row : HandlerRow s v t) : t.irb = s.irb := by
  cases row <;> simp_all [apply_ite State.irb]

theorem HandlerRow.rx (row : HandlerRow s v t) : t.env.rx = s.env.rx := by
  cases row <;> simp_all [apply_ite State.env, apply_ite Env.rx]

theorem HandlerRow.tx (row : HandlerRow s v t) : t.env.tx = s.env.tx := by
  cases row <;> simp_all [apply_ite State.env, apply_ite Env.tx]

theorem HandlerRow.timer (row : HandlerRow s v t) (k : TimerId) : t.timer k = rowTimer s v k := by
  cases row <;> cases k <;>
    simp_all [rowTimer, invokesSendId, ite_timer, ite_and, idRepeatCheck_timer, keyUp_timer, sendId_timer,
      ackIfEarned_timer, beginRelaying, start_of_dur_eq_zero, State.due, timerRunning, timerExpired]

/-- Off the two rows that leave LISTENING the output ring is not touched. -/
theorem HandlerRow.ring (row : HandlerRow s v t) (stays : ¬ (s.state = .listening ∧ v = true)) :
    t.orb = s.orb ∧ t.orbOvf = s.orbOvf ∧ t.halt = s.halt := by
  cases row <;> simp_all [apply_ite State.orb, apply_ite State.orbOvf, apply_ite State.halt]

/-- The two rows that leave LISTENING end in the same actions, with the output ring as it was (42_state_machine R188). -/
theorem HandlerRow.leaves (row : HandlerRow s true t) (h : s.state = .listening) :
    ∃ u, t = keyUp u ∧ u.orb = s.orb ∧ u.orbOvf = s.orbOvf ∧ u.halt = s.halt ∧ u.par = s.par := by
  cases row <;> simp_all
  all_goals
    exact ⟨_, rfl, by simp [apply_ite State.orb, apply_ite State.orbOvf, apply_ite State.halt, apply_ite State.par]⟩

end Columns

/-! ### The starts and stops of generators -/

/-- From `s` to `t` exactly the commands `cs` were given to the generators, in order, and nothing else was done to them;
neither decoder nor blanker got a sample. -/
structure Issued (cs : List Call) (s t : State) : Prop where
  calls : ∃ new : List Call, t.calls = new ++ s.calls ∧ new.reverse.filter (·.isCommand) = cs
  gen : ∀ k, t.gen k = commanded k cs (s.gen k)
  decoder : t.calls.filterMap processed = s.calls.filterMap processed
  blanker : t.calls.filterMap blanked = s.calls.filterMap blanked

namespace Issued

variable {s t u : State} {cs ds : List Call}

theorem refl (s : State) : Issued [] s s := ⟨⟨[], rfl, rfl⟩, fun _ => rfl, rfl, rfl⟩

theorem trans (a : Issued cs s t) (b : Issued ds t u) : Issued (cs ++ ds) s u := by
  obtain ⟨first, hf, cf⟩ := a.calls
  obtain ⟨second, hs, cd⟩ := b.calls
  refine ⟨⟨second ++ first, by simp [hs, hf], by simp [← cf, ← cd]⟩, fun k => ?_, b.decoder.trans a.decoder,
    b.blanker.trans a.blanker⟩
  rw [b.gen, a.gen, commanded, commanded, commanded, List.foldl_append]

/-- Steps that call nobody. -/
theorem quiet (a : Issued cs s t) (calls : u.calls = t.calls) (gen : ∀ k, u.gen k = t.gen k) : Issued cs s u :=
  ⟨by rw [calls]; exact a.calls, fun k => by rw [gen, a.gen], by rw [calls, a.decoder], by rw [calls, a.blanker]⟩

theorem timerStart (a : Issued cs s t) (k : TimerId) : Issued cs s (timerStart k t) :=
  a.quiet (timerStart_calls t k) (timerStart_gen t k)

theorem timerStop (a : Issued cs s t) (k : TimerId) : Issued cs s (timerStop k t) :=
  a.quiet (timerStop_calls t k) (timerStop_gen t k)

theorem setLines (a : Issued cs s t) (b : Bool) : Issued cs s (setLines b t) :=
  a.quiet (setLines_calls t b) (setLines_gen t b)

/-- The record of a transition is no command. -/
theorem logged (a : Issued cs s t) (old new : Ctl) : Issued cs s (t.record (.logTransition old new)) := by
  have log : Issued [] t (t.record (.logTransition old new)) :=
    ⟨⟨[_], rfl, rfl⟩, fun k => by simp [commanded], rfl, rfl⟩
  simpa using a.trans log

theorem setCtl (a : Issued cs s t) (c : Ctl) : Issued cs s (setCtl c t) := by
  by_cases h : t.state = c
  · exact a.quiet (by simp [setCtl_calls, h]) (by simp)
  · exact (a.logged t.state c).quiet (by simp [setCtl_calls, h]) (by simp)

theorem genStart (a : Issued cs s t) (k : GenId) : Issued (cs ++ [.genStart k]) s (genStart k t) :=
  a.trans ⟨⟨[.genStart k], by simp, rfl⟩, fun j => by by_cases h : j = k <;> simp [commanded, h, Ne.symm],
    by rw [genStart_calls]; rfl, by rw [genStart_calls]; rfl⟩

theorem genStop (a : Issued cs s t) (k : GenId) : Issued (cs ++ [.genStop k]) s (genStop k t) :=
  a.trans ⟨⟨[.genStop k], by simp, rfl⟩, fun j => by by_cases h : j = k <;> simp [commanded, h, Ne.symm],
    by rw [genStop_calls]; rfl, by rw [genStop_calls]; rfl⟩

/-- SendId, asked by `s` under condition `c` (42_state_machine R182). -/
theorem sendId (a : Issued cs s t) (hold : t.timer .hold = s.timer .hold) (c : Bool) :
    Issued (cs ++ if c && holdoffAllows s then [.genStart .idgen] else []) s (if c then sendId t else t) := by
  have allows : holdoffAllows s = holdoffAllows t := by simp [holdoffAllows, timerRunning, timerExpired, hold]
  rw [allows]
  cases c with
  | false => simpa using a
  | true =>
    cases hr : timerRunning .hold t with
    | false => simpa [holdoffAllows, hr, sendId_of_holdoff_stopped] using a.genStart .idgen
    | true =>
      cases he : timerExpired .hold t with
      | false => simpa [holdoffAllows, hr, he, sendId_of_holdoff_pending] using a
      | true =>
        simpa [holdoffAllows, hr, he, sendId_of_holdoff_expired] using
          (a.genStart .idgen).timerStart .hold

/-- IdRepeatCheck (42_state_machine R185). -/
theorem idRepeatCheck (a : Issued cs s t) (id : t.timer .id = s.timer .id) (hold : t.timer .hold = s.timer .hold) :
    Issued (cs ++ if s.due .id && holdoffAllows s then [.genStart .idgen] else []) s (idRepeatCheck t) := by
  have due : t.due .id = s.due .id := by simp [State.due, timerRunning, timerExpired, id]
  have sent := a.sendId hold (s.due .id)
  cases h : s.due .id with
  | false => rw [h] at due sent; rw [idRepeatCheck_of_not_due due]; exact sent
  | true =>
    rw [h] at due sent
    rw [idRepeatCheck_of_due due]
    exact sent.timerStart .id

/-- The earned acknowledgement (42_state_machine R195). -/
theorem ackIfEarned (a : Issued cs s t) (minAck : t.timer .minAck = s.timer .minAck) :
    Issued (cs ++ if !timerRunning .minAck s || timerExpired .minAck s then [.genStart .ackgen] else []) s
      (ackIfEarned t) := by
  have earned : (!timerRunning .minAck t || timerExpired .minAck t) = (!timerRunning .minAck s || timerExpired .minAck s) := by
    simp [timerRunning, timerExpired, minAck]
  rw [Machine.ackIfEarned, earned]
  split
  · exact (a.genStart .ackgen).timerStop .minAck
  · simpa using a

theorem postTransition (a : Issued cs s t) : Issued cs s (postTransition t) := by
  obtain ⟨asked, calls, isWanted⟩ := postTransition_asks t
  have silent : asked.reverse.filter (·.isCommand) = [] := List.filter_eq_nil_iff.2 fun e he => by
    rcases isWanted e (List.mem_reverse.1 he) with rfl | rfl <;> simp [Call.isCommand]
  have unheard {β : Type} {f : Call → Option β} (hf : ∀ k b, f (.genIsWanted k b) = none) :
      (Machine.postTransition t).calls.filterMap f = t.calls.filterMap f := by
    rw [calls, List.filterMap_append, List.filterMap_eq_nil_iff.2, List.nil_append]
    intro e he
    rcases isWanted e he with rfl | rfl <;> exact hf _ _
  simpa using a.trans ⟨⟨asked, calls, silent⟩, fun k => by simp [commanded], unheard fun _ _ => rfl, unheard fun _ _ => rfl⟩

end Issued

end Sys2Proof.Machine

namespace Sys2Proof.Machine

section Evaluation

variable {s t : State} {v : Bool}

/-- Each row gives the commands of the table, in its order (42_state_machine R202). -/
theorem HandlerRow.issued (row : HandlerRow s v t) : Issued (rowCommands s v) s t := by
  have entry := Issued.refl s
  cases row with
  | listens h => simpa [rowCommands, invokesSendId, h] using entry
  | keysUp h hk u hu =>
    have started : Issued [] s u := hu ▸ (entry.setCtl .kerchunk).timerStart .ker
    simpa [rowCommands, invokesSendId, h, hk] using
      (started.sendId (by simp [hu]) (s.cfg.atStart && !s.cfg.atLatch)).quiet (keyUp_calls _) (keyUp_gen _)
  | keysUpWithoutKerchunk h hk u hu =>
    have started : Issued [] s u := hu ▸ entry.setCtl .relaying
    simpa [rowCommands, invokesSendId, h, hk] using
      (started.sendId (by simp [hu]) s.cfg.atStart).quiet (keyUp_calls _) (keyUp_gen _)
  | kerchunks h hk => simpa [rowCommands, invokesSendId, h, hk] using entry
  | passesKerchunk h hk u hu =>
    have passed : Issued [] s u := hu ▸ (entry.setCtl .relaying).timerStop .ker
    have sent := passed.sendId (by simp [hu]) (s.cfg.atStart && s.cfg.atLatch)
    have restarted := sent.quiet (u := if s.cfg.atStart && s.cfg.atLatch then timerStart .id (sendId u) else u)
      (by split <;> rfl) (by split <;> simp)
    simpa [rowCommands, invokesSendId, h, hk] using restarted
  | revertsKerchunk h =>
    simpa [rowCommands, invokesSendId, h] using
      (((((entry.setCtl .listening).setLines false).timerStop .ker).timerStop .timeout).timerStop .minAck).timerStop .id
  | timesOut h hk =>
    have started := (((entry.setCtl .timeout).timerStop .minAck).timerStop .timeout).genStart .totone
    simpa [rowCommands, invokesSendId, h, hk] using started.idRepeatCheck (by simp) (by simp)
  | relays h hk => simpa [rowCommands, invokesSendId, h, hk] using entry.idRepeatCheck rfl rfl
  | losesRelayed h =>
    have lost := ((entry.setLines false).setCtl .relayingWait).timerStart .ackDly
    simpa [rowCommands, invokesSendId, h] using lost.idRepeatCheck (by simp) (by simp)
  | regainsRelayed h =>
    have regained := ((entry.setLines true).setCtl .relaying).timerStop .ackDly
    simpa [rowCommands, invokesSendId, h] using regained.idRepeatCheck (by simp) (by simp)
  | endsRelayed h hk =>
    have earned := (entry.setCtl .hang).ackIfEarned (by simp)
    have ended := ((earned.timerStop .ackDly).timerStop .timeout).timerStart .hang
    simpa [rowCommands, invokesSendId, h, hk] using
      ended.idRepeatCheck (by simp [ackIfEarned_timer]) (by simp [ackIfEarned_timer])
  | awaitsRelayed h hk => simpa [rowCommands, invokesSendId, h, hk] using entry.idRepeatCheck rfl rfl
  | staysTimedOut h => simpa [rowCommands, invokesSendId, h] using entry.idRepeatCheck rfl rfl
  | losesTimedOut h =>
    have lost := ((entry.setLines false).setCtl .timeoutWait).timerStart .ackDly
    simpa [rowCommands, invokesSendId, h] using lost.idRepeatCheck (by simp) (by simp)
  | regainsTimedOut h =>
    have regained := ((entry.setLines true).setCtl .timeout).timerStop .ackDly
    simpa [rowCommands, invokesSendId, h] using regained.idRepeatCheck (by simp) (by simp)
  | endsTimedOut h hk =>
    have acked := ((entry.setCtl .hang).genStop .totone).genStart .ackgen
    have ended := (((acked.timerStop .ackDly).timerStop .minAck).timerStop .timeout).timerStart .hang
    simpa [rowCommands, invokesSendId, h, hk] using ended.idRepeatCheck (by simp) (by simp)
  | awaitsTimedOut h hk => simpa [rowCommands, invokesSendId, h, hk] using entry.idRepeatCheck rfl rfl
  | resumes h =>
    have stopped := ((entry.setLines true).setCtl .relaying).genStop .ackgen
    have resumed := (stopped.timerStart .timeout).timerStart .minAck
    simpa [rowCommands, invokesSendId, h, beginRelaying] using resumed.idRepeatCheck (by simp) (by simp)
  | ends h hk u hu =>
    have ended : Issued [] s u := hu ▸ (entry.setCtl .listening).timerStop .hang
    simpa [rowCommands, invokesSendId, h, hk] using (ended.sendId (by simp [hu]) s.cfg.atEnd).timerStop .id
  | hangs h hk => simpa [rowCommands, invokesSendId, h, hk] using entry.idRepeatCheck rfl rfl

end Evaluation

/-! ### One evaluation: the handler, then the post-transition rule -/

section Evaluation

variable (s : State) (v : Bool)

theorem eval_state : (eval v s).state = nextCtl s v := (postTransition_state _).trans (handler_row s v).state

theorem eval_decodeEn : (eval v s).decodeEn = (linesWritten s.state v).getD s.decodeEn :=
  (postTransition_decodeEn _).trans (handler_row s v).decodeEn

theorem eval_adcDetEn : (eval v s).adcDetEn = (linesWritten s.state v).getD s.adcDetEn :=
  (postTransition_adcDetEn _).trans (handler_row s v).adcDetEn

theorem eval_filt : (eval v s).filt = s.filt := (postTransition_filt _).trans (handler_row s v).filt

theorem eval_irb : (eval v s).irb = s.irb := (postTransition_irb _).trans (handler_row s v).irb

theorem eval_rx : (eval v s).env.rx = s.env.rx := by rw [eval, postTransition_env, (handler_row s v).rx]

theorem eval_tx : (eval v s).env.tx = s.env.tx := by rw [eval, postTransition_env, (handler_row s v).tx]

theorem eval_issued : Issued (rowCommands s v) s (eval v s) := (handler_row s v).issued.postTransition

/-- An evaluation that leaves LISTENING does not end there. -/
theorem nextCtl_ne_listening (h : s.state = .listening) : nextCtl s true ≠ .listening := by
  simp only [nextCtl, h]
  split <;> simp

/-- The last line of the table applies exactly when the post-transition rule finds the handler's result idle. -/
theorem demotes_iff : demotes s v (eval v s) = true ↔ (handler v s).fullyIdle := by
  have mode : nextCtl s v = .listening → ((handler v s).mode = modeFm ↔ s.mode = modeFm) := by
    intro ends
    rw [(handler_row s v).mode, if_neg]
    rintro ⟨h, rfl⟩
    exact nextCtl_ne_listening s h ends
  simp only [demotes, State.fullyIdle, eval, postTransition_gen, Bool.and_eq_true, beq_iff_eq, Bool.not_eq_true', fm_iff,
    (handler_row s v).state, and_assoc]
  exact and_congr_right fun ends => and_congr_left' (mode ends).symm

theorem eval_mode : (eval v s).mode = if s.state = .listening ∧ v = true then modeFm
    else if demotes s v (eval v s) then modeIdle else s.mode := by
  by_cases idle : (handler v s).fullyIdle
  · have listens := (handler_row s v).state.symm.trans idle.1
    rw [if_neg, if_pos ((demotes_iff s v).2 idle)]
    · exact postTransition_mode_of_fullyIdle _ idle
    · rintro ⟨h, rfl⟩
      exact nextCtl_ne_listening s h listens
  · rw [if_neg (mt (demotes_iff s v).1 idle), ← (handler_row s v).mode]
    exact postTransition_mode_of_not_fullyIdle _ idle

theorem eval_timer (k : TimerId) : (eval v s).timer k =
    if demotes s v (eval v s) && !(k == .hold && !s.par.stopAllHoldoff) then (rowTimer s v k).stop
    else rowTimer s v k := by
  have par : (handler v s).par = s.par := (handler_run v s).par
  rw [← (handler_row s v).timer]
  by_cases idle : (handler v s).fullyIdle
  · rw [(demotes_iff s v).2 idle, eval, postTransition_timer_of_fullyIdle _ idle, stopAll_timer, par]
    cases s.par.stopAllHoldoff <;> cases k <;> rfl
  · rw [Bool.eq_false_iff.2 (mt (demotes_iff s v).1 idle), eval, postTransition_timer_of_not_fullyIdle _ idle]
    rfl

/-- Off LISTENING an evaluation leaves every timer as its row says. -/
theorem eval_timer_of_not_listening (h : (eval v s).state ≠ .listening) (k : TimerId) :
    (eval v s).timer k = rowTimer s v k := by
  rw [eval_state] at h
  simp [eval_timer, demotes, h]

theorem eval_ring (stays : ¬ (s.state = .listening ∧ v = true)) :
    (eval v s).orb = s.orb ∧ (eval v s).orbOvf = s.orbOvf ∧ (eval v s).halt = s.halt := by
  simpa [eval] using (handler_row s v).ring stays

/-- What leaving LISTENING does to the output ring is what the 1200 Puts do to it (42_state_machine R184, R188). -/
theorem eval_silence (h : s.state = .listening) : ∃ u : State,
    u.orb = s.orb ∧ u.orbOvf = s.orbOvf ∧ u.halt = s.halt ∧ u.par = s.par ∧
    (eval true s).orb = (putOrbTimes Config.silenceLen 0 u).orb ∧
    (eval true s).orbOvf = (putOrbTimes Config.silenceLen 0 u).orbOvf ∧
    (eval true s).halt = (putOrbTimes Config.silenceLen 0 u).halt := by
  obtain ⟨u, hu, orb, ovf, halt, par⟩ := (handler_row s true).leaves h
  refine ⟨u, orb, ovf, halt, par, ?_⟩
  rw [eval, hu, postTransition_orb, postTransition_orbOvf, postTransition_halt]
  exact ⟨keyUp_orb u, keyUp_orbOvf u, keyUp_halt u⟩

end Evaluation

/-! ### The end of a transmission (42_state_machine R195, R200) -/

theorem eval_of_not_listening {s : State} {v : Bool} (h : nextCtl s v ≠ .listening) : eval v s = handler v s :=
  postTransition_of_not_listening _ (by rwa [(handler_row s v).state])

/-- What the end of a relayed transmission does before the identification check (42_state_machine R195). -/
def endRelayed (s : State) : State :=
  timerStart .hang (timerStop .timeout (timerStop .ackDly (ackIfEarned (setCtl .hang s))))

/-- What the end of a timed-out transmission does before the identification check (42_state_machine R200). -/
def endTimedOut (s : State) : State :=
  timerStart .hang (timerStop .timeout (timerStop .minAck (timerStop .ackDly
    (genStart .ackgen (genStop .totone (setCtl .hang s))))))

theorem genStart_ackgen_env (s : State) :
    (genStart .ackgen s).env = { s.env with ackgen := (s.gen .ackgen).after .ackgen .start } := rfl

theorem genStop_totone_env (s : State) :
    (genStop .totone s).env = { s.env with totone := (s.gen .totone).afterStop .totone } := rfl

/-- The acknowledgement depends on the minimum-ack timer alone (42_state_machine R195). -/
theorem endRelayed_of_earned {s : State} (earned : timerRunning .minAck s = false ∨ timerExpired .minAck s = true) :
    endRelayed s = timerStart .hang (timerStop .timeout (timerStop .ackDly (timerStop .minAck
      (genStart .ackgen (setCtl .hang s))))) := by
  have asked : (!timerRunning .minAck (setCtl .hang s) || timerExpired .minAck (setCtl .hang s)) = true := by
    simpa [timerRunning, timerExpired] using earned
  rw [endRelayed, ackIfEarned, if_pos asked]

theorem endRelayed_of_not_earned {s : State}
    (unearned : ¬ (timerRunning .minAck s = false ∨ timerExpired .minAck s = true)) :
    endRelayed s = timerStart .hang (timerStop .timeout (timerStop .ackDly (setCtl .hang s))) := by
  have asked : ¬ (!timerRunning .minAck (setCtl .hang s) || timerExpired .minAck (setCtl .hang s)) = true := by
    simpa [timerRunning, timerExpired] using unearned
  rw [endRelayed, ackIfEarned, if_neg asked]

theorem endRelayed_timer (s : State) (k : TimerId) : (endRelayed s).timer k =
    if k = .hang then (s.timer k).start
    else if k = .timeout ∨ k = .ackDly ∨ k = .minAck ∧ (!timerRunning .minAck s || timerExpired .minAck s) = true then
      (s.timer k).stop
    else s.timer k := by
  cases k <;> simp [endRelayed, ackIfEarned_timer, timerRunning, timerExpired]

theorem endTimedOut_timer (s : State) (k : TimerId) : (endTimedOut s).timer k =
    if k = .hang then (s.timer k).start
    else if k = .timeout ∨ k = .ackDly ∨ k = .minAck then (s.timer k).stop else s.timer k := by
  cases k <;> simp [endTimedOut]

/-! ### The obligations -/

/-- Settles O29. -/
theorem evaluationNextState : Obligations.EvaluationNextState := eval_state

/-- Settles O30. -/
theorem evaluationLines : Obligations.EvaluationLines := fun s v => ⟨eval_decodeEn s v, eval_adcDetEn s v⟩

/-- Settles O31. -/
theorem evaluationMode : Obligations.EvaluationMode := eval_mode

/-- Settles O32. -/
theorem evaluationTimers : Obligations.EvaluationTimers := eval_timer

/-- Settles O33. -/
theorem evaluationCommands : Obligations.EvaluationCommands := by
  intro s v
  obtain ⟨⟨new, calls, commands⟩, gen, -, -⟩ := eval_issued s v
  exact ⟨new, calls, commands, gen⟩

/-- Settles O34: the frame from the rows, the ring from the 1200 Puts. -/
theorem evaluationFrameAndSilence : Obligations.EvaluationFrameAndSilence := by
  intro s v leaves spills
  have frame := eval_run v s
  have silence (h : leaves) : ∃ u : State, _ := h.2 ▸ eval_silence s h.1
  have spilled {u : State} (orb : u.orb = s.orb) (h : 1200 < s.orb.length) :
      Config.orbCap < u.orb.length + Config.silenceLen ∧ 0 < Config.silenceLen := by
    rw [orb, Config.silenceLen, Config.orbCap]
    omega
  refine ⟨?_, fun h => ?_, fun h => (eval_ring s v h).1, fun h => ?_, fun h drop => ?_, fun h fault => ?_⟩
  · apply State.ext
    case cfg => exact frame.cfg
    case res => exact frame.res
    case filt => exact eval_filt s v
    case irb => exact eval_irb s v
    case payload => exact frame.payload
    case par => exact frame.par
    case cmd => exact frame.cmd
    case env => exact Env.ext (eval_rx s v) (eval_tx s v) rfl rfl rfl frame.sink frame.blankParams
    all_goals rfl
  · obtain ⟨u, orb, -, -, -, eq, -⟩ := silence h
    rw [eq, putOrbTimes_orb, orb]
    rfl
  · by_cases hl : leaves
    · obtain ⟨u, orb, ovf, halt, -, -, eqOvf, eqHalt⟩ := silence hl
      have room : u.orb.length + Config.silenceLen ≤ Config.orbCap := by
        have : ¬ 1200 < s.orb.length := fun hs => h ⟨hl, hs⟩
        rw [orb, Config.silenceLen, Config.orbCap]
        omega
      rw [eqOvf, eqHalt, putOrbTimes_room _ _ _ room]
      exact ⟨ovf, halt⟩
    · exact (eval_ring s v hl).2
  · obtain ⟨u, orb, -, halt, par, -, eqOvf, eqHalt⟩ := silence h.1
    obtain ⟨kept, flag⟩ := putOrbTimes_dropNew u Config.silenceLen 0 (by rw [par, drop])
    exact ⟨by rw [eqOvf, flag, decide_eq_true (spilled orb h.2), Bool.or_true], by rw [eqHalt, kept, halt]⟩
  · obtain ⟨u, orb, ovf, halt, par, -, eqOvf, eqHalt⟩ := silence h.1
    obtain ⟨kept, raised⟩ := putOrbTimes_fault u Config.silenceLen 0 (by rw [par, fault])
    exact ⟨by rw [eqOvf, kept, ovf], by rw [eqHalt, raised, if_pos (spilled orb h.2), halt]⟩

/-- Settles O51: the frame of an evaluation for 1201 to 2400 samples queued. -/
theorem overflowDropsNewSamples : Obligations.OverflowDropsNewSamples := by
  intro s listens drop bound spills
  obtain ⟨-, silence, -, -, dropped, -⟩ := evaluationFrameAndSilence s true
  obtain ⟨ovf, halt⟩ := dropped ⟨⟨listens, rfl⟩, spills⟩ drop
  refine ⟨?_, ovf, halt, ?_⟩
  · rw [silence ⟨listens, rfl⟩, Nat.min_eq_right (by omega)]
  · rw [eval_mode, if_pos ⟨listens, rfl⟩]

/-- Settles O38: each wait state before and after its delay. -/
theorem waitStatesEndInHang : Obligations.WaitStatesEndInHang := by
  intro s h
  have off_listening : eval false s = handler false s := by
    apply eval_of_not_listening
    rcases h with h | h <;> simp only [nextCtl, h] <;> split <;> simp
  refine ⟨fun pending => ?_, fun expired => ?_⟩
  · rcases h with h | h
    · simp [off_listening, handler, h, relayingWait, pending]
    · simp [off_listening, handler, h, timeoutWait, pending]
  · rcases h with h | h
    · refine ⟨endRelayed s, by simp [off_listening, handler, h, relayingWait, expired, endRelayed], ?_⟩
      refine ⟨?_, by simp [endRelayed_timer, h]⟩
      by_cases earned : timerRunning .minAck s = false ∨ timerExpired .minAck s = true
      · rw [endRelayed_of_earned earned]
        apply State.ext <;> simp [h, earned, setCtl_calls, genStart_ackgen_env]
      · rw [endRelayed_of_not_earned earned]
        apply State.ext <;> simp [h, earned, setCtl_calls]
    · refine ⟨endTimedOut s, by simp [off_listening, handler, h, timeoutWait, expired, endTimedOut], ?_⟩
      refine ⟨?_, by simp [endTimedOut_timer, h]⟩
      apply State.ext <;> simp [endTimedOut, h, setCtl_calls, genStart_ackgen_env, genStop_totone_env]

end Sys2Proof.Machine

/-! PROOFS. Periodic identification over any run of evaluations (42_state_machine R185, §8 Scenario 5). -/

namespace Sys2Proof.Machine

section Periodic

variable {s : State} {v : Bool}

/-- In the five states that check the repeat timer, SendId is invoked exactly when that timer is due, as long as the
evaluation does not end in LISTENING. -/
theorem invokesSendId_of_checks (hl : s.state ≠ .listening) (hk : s.state ≠ .kerchunk) (off : nextCtl s v ≠ .listening) :
    invokesSendId s v = s.due .id := by
  cases h : s.state <;> cases v <;> simp_all [invokesSendId, nextCtl]

theorem rowTimer_id_of_checks (hl : s.state ≠ .listening) (hk : s.state ≠ .kerchunk) (off : nextCtl s v ≠ .listening) :
    rowTimer s v .id = if s.due .id then (s.timer .id).start else s.timer .id := by
  cases h : s.state <;> cases v <;> simp_all [rowTimer, nextCtl]

/-- KERCHUNK is entered from LISTENING only. -/
theorem nextCtl_ne_kerchunk (hl : s.state ≠ .listening) (hk : s.state ≠ .kerchunk) : nextCtl s v ≠ .kerchunk := by
  cases h : s.state <;> cases v <;> simp_all [nextCtl] <;> split <;> simp

theorem count_rowCommands : (rowCommands s v).count (.genStart .idgen) =
    if invokesSendId s v && holdoffAllows s then 1 else 0 := by
  cases h : s.state <;> cases v <;>
    simp [rowCommands, h, apply_ite (List.count (Call.genStart .idgen))]

/-- An evaluation adds the starts of its row to the record. -/
theorem count_eval_calls (k : GenId) : (eval v s).calls.count (.genStart k) =
    (rowCommands s v).count (.genStart k) + s.calls.count (.genStart k) := by
  obtain ⟨new, calls, commands⟩ := (eval_issued s v).calls
  rw [calls, List.count_append, ← commands, List.count_filter rfl, List.count_reverse]

/-- The repeat timer has just been restarted, in a state that checks it. -/
structure RepeatRestarted (s : State) : Prop where
  off_listening : s.state ≠ .listening
  off_kerchunk : s.state ≠ .kerchunk
  run : (s.timer .id).run = true
  el : (s.timer .id).el = 0
  dur : (s.timer .id).dur ≠ 0

theorem RepeatRestarted.not_due (h : RepeatRestarted s) : s.due .id = false := by
  have dur : (s.timer .id).dur ≠ 0#32 := h.dur
  simp [State.due, timerExpired, Timer.expired, h.el, dur]

/-- Without a tick no second identification comes: the timer is not due, so the evaluation neither sends nor restarts. -/
theorem RepeatRestarted.eval (h : RepeatRestarted s) (off : (eval v s).state ≠ .listening) :
    RepeatRestarted (eval v s) ∧ (eval v s).calls.count (.genStart .idgen) = s.calls.count (.genStart .idgen) := by
  have next := off
  rw [eval_state] at next
  have timer : (Machine.eval v s).timer .id = s.timer .id := by
    simp [eval_timer_of_not_listening _ _ off, rowTimer_id_of_checks h.off_listening h.off_kerchunk next, h.not_due]
  refine ⟨⟨off, ?_, ?_, ?_, ?_⟩, ?_⟩
  · rw [eval_state]
    exact nextCtl_ne_kerchunk h.off_listening h.off_kerchunk
  · rw [timer, h.run]
  · rw [timer, h.el]
  · rw [timer]
    exact h.dur
  · simp [count_eval_calls, count_rowCommands, invokesSendId_of_checks h.off_listening h.off_kerchunk next, h.not_due]

theorem RepeatRestarted.evalEach (vs : List Bool) (h : RepeatRestarted s)
    (off : ∀ n, (evalEach (vs.take n) s).state ≠ .listening) : RepeatRestarted (evalEach vs s) ∧
      (evalEach vs s).calls.count (.genStart .idgen) = s.calls.count (.genStart .idgen) := by
  induction vs generalizing s with
  | nil => exact ⟨h, rfl⟩
  | cons v vs ih =>
    obtain ⟨restarted, count⟩ := h.eval (v := v) (off 1)
    obtain ⟨last, counts⟩ := ih restarted fun n => off (n + 1)
    exact ⟨last, counts.trans count⟩

/-- The evaluation that finds the repeat timer due sends the identification and restarts the timer. -/
theorem eval_of_repeat_due (hl : s.state ≠ .listening) (hk : s.state ≠ .kerchunk) (off : (eval v s).state ≠ .listening)
    (due : s.due .id = true) (dur : (s.timer .id).dur ≠ 0) (offset : (s.timer .id).off = 0)
    (hold : (s.timer .hold).run = false) : RepeatRestarted (eval v s) ∧
      (eval v s).calls.count (.genStart .idgen) = s.calls.count (.genStart .idgen) + 1 := by
  have next := off
  rw [eval_state] at next
  have timer : (eval v s).timer .id = { s.timer .id with run := true, el := 0 } := by
    rw [eval_timer_of_not_listening _ _ off, rowTimer_id_of_checks hl hk next, due, if_pos rfl,
      start_of_dur_ne_zero dur]
    exact Timer.ext rfl rfl offset rfl
  refine ⟨⟨off, ?_, ?_, ?_, ?_⟩, ?_⟩
  · rw [eval_state]
    exact nextCtl_ne_kerchunk hl hk
  · rw [timer]
  · rw [timer]
  · rw [timer]
    exact dur
  · simp [count_eval_calls, count_rowCommands, invokesSendId_of_checks hl hk next, due, holdoffAllows, timerRunning, hold,
      Nat.add_comm]

end Periodic

/-- Settles O40: the first evaluation sends and restarts the repeat timer; no later one finds it due. -/
theorem periodicIdentificationOncePerExpiry : Obligations.PeriodicIdentificationOncePerExpiry := by
  intro s v vs hk off run expired dur offset hold
  have due : s.due .id = true := by simp [State.due, timerRunning, timerExpired, run, expired]
  obtain ⟨restarted, first⟩ := eval_of_repeat_due (v := v) (off 0) hk (off 1) due dur offset hold
  obtain ⟨last, later⟩ := restarted.evalEach vs fun n => off (n + 1)
  exact ⟨later.trans first, last.run, last.el⟩

end Sys2Proof.Machine

/-! PROOFS. The statements on RESET, the SET operations, MODE_WR and DRAIN (43_config R221 to R224, 44_drain_reset R240 to
R242), and on a generator that was stopped (60_exceptions R266). -/

namespace Sys2Proof.Machine

/-! ### RESET -/

section Reset

variable (s : State)

/-- What RESET leaves (44_drain_reset R241). -/
def resetState : State :=
  finish 0 (clearOrb (genStop .totone (genStop .ackgen (genStop .idgen (rxReset (stopAll (setCtl .listening s.beginOp)))))))

theorem exec_reset : exec .reset s = .next (resetState s) := rfl

theorem resetState_timer (k : TimerId) : (resetState s).timer k =
    if k = .hold ∧ s.par.stopAllHoldoff = false then s.timer k else (s.timer k).stop := by
  simp [resetState]

theorem resetState_gen (k : GenId) : (resetState s).gen k = (s.gen k).afterStop k := by
  cases k <;> simp [resetState]

theorem resetState_rx : (resetState s).env.rx = (rxReset s).env.rx := by
  simp [resetState, rxReset_rx]

theorem resetState_eq : resetState s = { s with
    state := .listening, tmr := (resetState s).tmr, orb := [], orbOvf := false, res := ⟨0, false, 0⟩,
    calls := (resetState s).calls, halt := none,
    env := { s.env with
      rx := (resetState s).env.rx, idgen := (resetState s).env.idgen, ackgen := (resetState s).env.ackgen,
      totone := (resetState s).env.totone } } := by
  apply State.ext
  case env => apply Env.ext <;> simp [resetState]
  all_goals simp [resetState]

theorem resetState_calls : (resetState s).calls.reverse =
    (if s.state = .listening then [] else [.logTransition s.state .listening]) ++
      [.rxReset, .genStop .idgen, .genStop .ackgen, .genStop .totone] := by
  by_cases h : s.state = .listening <;> simp [resetState, setCtl_calls, h]

/-- A second `reset()` in a row leaves the decoder as it is (60_exceptions R266 A5). -/
theorem rxReset_rx_of_clean {s : State} (h : s.env.rx.clean = true) : (rxReset s).env.rx = s.env.rx := by
  simp [rxReset_rx, h]

theorem rxReset_clean : (rxReset s).env.rx.clean = true := by
  rw [rxReset_rx]
  split
  · assumption
  · rfl

end Reset

/-- Settles O10: the literal of the power-on state, read off. -/
theorem powerOnRegisters : Obligations.PowerOnRegisters := by
  refine ⟨rfl, fun k => by cases k <;> rfl, rfl, rfl, rfl, rfl, rfl, rfl, rfl, rfl, rfl, fun k => by cases k <;> exact ⟨rfl, rfl⟩⟩

/-- Settles O11. -/
theorem resetReturnsToListening : Obligations.ResetReturnsToListening := by
  refine fun s => ⟨resetState s, exec_reset s, resetState_eq s, fun k => ?_, resetState_calls s, fun k => ?_⟩
  · rw [resetState_timer]
    split <;> rfl
  · rw [resetState_gen, afterStop_running]

/-- Every effect of RESET is idempotent. -/
theorem resetState_resetState (s : State) :
    resetState (resetState s) = { resetState s with calls := (resetState (resetState s)).calls } := by
  have par : (resetState s).par = s.par := by rw [resetState_eq]
  apply State.ext
  case tmr =>
    refine tmr_ext fun k => ?_
    rw [resetState_timer, par]
    show _ = (resetState s).timer k
    rw [resetState_timer]
    split <;> rfl
  case env =>
    refine env_ext (fun k => ?_) ?_ ?_ ?_ ?_
    · rw [resetState_gen]
      show _ = (resetState s).gen k
      rw [resetState_gen, afterStop_afterStop]
    · rw [resetState_rx, rxReset_rx_of_clean (by rw [resetState_rx, rxReset_clean])]
    all_goals simp [resetState]
  all_goals simp [resetState]

/-- Settles O12. -/
theorem resetTwiceIsResetOnce : Obligations.ResetTwiceIsResetOnce := by
  intro s t u first second
  rw [exec_reset] at first second
  cases first
  cases second
  exact resetState_resetState s

/-! ### The SET operations and MODE_WR -/

theorem minutesToTicks_toNat (m : BitVec 8) : (minutesToTicks m).toNat = 1440000 * m.toNat := by
  have := m.isLt
  rw [minutesToTicks, BitVec.toNat_ofNat, Config.ticksPerMin]
  omega

theorem minutesToTicks_eq_zero_iff (m : BitVec 8) : minutesToTicks m = 0 ↔ m = 0 := by
  rw [← BitVec.toNat_inj, ← BitVec.toNat_inj, minutesToTicks_toNat]
  simp

/-- The answer that stands first on a generator's response channel is the one it gives. -/
theorem reply_of_replies_eq_cons {k : GenId} {c : GenCall} {g : Gen} {a : GenReply} {rest : List GenReply}
    (h : g.replies = a :: rest) : g.reply k c = a := by
  simp [Gen.reply, h]

/-- The timers after SET_CALLSIGN (43_config R221); Start does nothing on a holdoff of 0. -/
def callsignTimers (h r : BitVec 8) (ts : Timers) : Timers :=
  (ts.modify .hold fun t => (t.configure (minutesToTicks h) 0).start).modify .id (Timer.configure (minutesToTicks r) 0)

/-- The timers after SET_ACK (43_config R222). -/
def ackTimers (m d offset : Ticks) (ts : Timers) : Timers :=
  (ts.modify .ackDly (Timer.configure d offset)).modify .minAck fun t => if m = 0 then t else t.configure m 0

/-- The timers after SET_MISC (43_config R223). -/
def miscTimers (o k h : Ticks) (ts : Timers) : Timers :=
  ((ts.modify .timeout (Timer.configure o 0)).modify .ker (Timer.configure k 0)).modify .hang (Timer.configure h 0)

section Stores

variable (s : State)

/-- The code that `idgen` answers to SET_CALLSIGN. -/
def callsignCode : StatusCode := (s.env.idgen.reply .idgen (.setParams s.payload.pId)).code

/-- The code that `ackgen` answers to SET_ACK. -/
def ackCode : StatusCode := (s.env.ackgen.reply .ackgen (.setParams s.payload.pAck)).code

theorem exec_setCallsign (b e l : Bool) (h r : BitVec 8) : exec (.setCallsign b e l h r) s = .next { s with
    cfg := { s.cfg with atStart := b, atEnd := e, atLatch := l }, tmr := callsignTimers h r s.tmr,
    res := ⟨callsignCode s, false, 0⟩,
    env := { s.env with idgen := s.env.idgen.after .idgen (.setParams s.payload.pId) },
    calls := [.genSetParams .idgen s.payload.pId (callsignCode s)], halt := none } := by
  by_cases positive : 0#32 < minutesToTicks h
  · simp only [exec, execSetCallsign, storeCallsign, positive, if_true]
    rfl
  · have unstarted (t : Timer) : (t.configure (minutesToTicks h) 0).start = t.configure (minutesToTicks h) 0 :=
      if_neg positive
    simp only [exec, execSetCallsign, storeCallsign, positive, if_false, callsignTimers, unstarted]
    rfl

theorem exec_setAck (m d : Ticks) : exec (.setAck m d) s = .next { s with
    tmr := ackTimers m d s.par.ackDelayOffset s.tmr, res := ⟨ackCode s, false, 0⟩,
    env := { s.env with ackgen := s.env.ackgen.after .ackgen (.setParams s.payload.pAck) },
    calls := [.genSetParams .ackgen s.payload.pAck (ackCode s)], halt := none } := by
  by_cases h : m = 0
  · subst h
    rfl
  · have positive : 0#32 < m := (BitVec.pos_iff_ne_zero _).2 h
    simp only [exec, execSetAck, storeAck, positive, if_true, ackTimers, h, if_false]
    rfl

/-- SET_MISC up to the decoder's answer (43_config R223). -/
def miscStored (c v : Bool) (b : BitVec 8) (x : BitVec 16) (o k h : Ticks) : State := { s with
  cfg := { s.cfg with useCos := c, cosInvert := v, rfAudioBoost := b, rxLevel := x }, tmr := miscTimers o k h s.tmr,
  env := { s.env with
    totone := s.env.totone.after .totone (.setParams s.payload.pTo), blankParams := some s.payload.pBlank },
  calls := [.blankSetParams s.payload.pBlank, .totoneSetParams s.payload.pTo], halt := none }

/-- The code that the decoder answers to SET_MISC. -/
def rxMiscCode : StatusCode := s.env.rx.code s.payload.pRx

theorem exec_setMisc_rejected (c v : Bool) (b : BitVec 8) (x : BitVec 16) (o k h : Ticks) (rejects : rxMiscCode s ≠ 0) :
    exec (.setMisc c v b x o k h) s =
      .next (finish (rxMiscCode s) (rxSetParams s.payload.pRx (miscStored s c v b x o k h)).2) :=
  congrArg (fun q : StatusCode × State => Host.Outcome.next (finish q.1 q.2)) (if_pos rejects)

theorem exec_setMisc_accepted (c v : Bool) (b : BitVec 8) (x : BitVec 16) (o k h : Ticks) (accepts : rxMiscCode s = 0) :
    exec (.setMisc c v b x o k h) s =
      .next (finish (s.env.tx.code s.payload.pTx)
        (txSetParams s.payload.pTx (rxSetParams s.payload.pRx (miscStored s c v b x o k h)).2).2) :=
  congrArg (fun q : StatusCode × State => Host.Outcome.next (finish q.1 q.2)) (if_neg (not_not_intro accepts))

theorem exec_modeWr (m : ModeWord) :
    exec (.modeWr m) s = .next { s with mode := m, res := ⟨0, false, 0⟩, calls := [], halt := none } := rfl

end Stores

/-! ### DRAIN -/

section Drain

/-- The state after the first sample of the ring, `v`, was moved to the sink. -/
def moved (v : Sample) (rest : List Sample) (s : State) : State := { s with
  orb := rest, calls := .sinkWrite s.par.fmTag v :: .sinkSpace s.env.sink.space :: s.calls,
  env := { s.env with sink := (sinkWrite s.par.fmTag v (sinkSpace s).2).env.sink } }

variable {s : State} {v : Sample} {rest : List Sample}

theorem drainLoop_of_empty (n : Nat) (h : s.orb = []) : drainLoop n s = s := by
  cases n <;> simp [drainLoop, State.orbCount, h]

theorem drainLoop_of_no_space (n : Nat) (h : s.orb = v :: rest) (full : s.env.sink.space ≤ s.par.sinkHeadroom) :
    drainLoop (n + 1) s = (sinkSpace s).2 := by
  simp [drainLoop, State.orbCount, h, Nat.not_lt.2 full]

theorem drainLoop_of_space (n : Nat) (h : s.orb = v :: rest) (space : s.par.sinkHeadroom < s.env.sink.space) :
    drainLoop (n + 1) s = drainLoop n (moved v rest s) := by
  simp only [drainLoop, State.orbCount, getOrb, h, space, List.length_cons, Nat.succ_pos, if_true, sinkSpace_par,
    sinkSpace_fst, sinkSpace_orb]
  rfl

/-- The calls that move the samples of `q`, with the answers `spaces` (44_drain_reset R240). -/
def drainCalls (tag : Nat) (spaces : List Nat) (q : List Sample) : List Call :=
  (spaces.zip q).flatMap fun p => [.sinkSpace p.1, .sinkWrite tag p.2]

/-- The samples that leave are the oldest, each after an answer above the headroom; the last answer, if the ring is not
empty by then, is not above it. -/
theorem drainLoop_moves (q : List Sample) (s : State) (h : s.orb = q) : ∃ (spaces : List Nat) (stop : List Call) (sink : Sink),
    drainLoop q.length s = { s with
      orb := q.drop spaces.length, env := { s.env with sink := sink },
      calls := (drainCalls s.par.fmTag spaces q ++ stop).reverse ++ s.calls } ∧
    spaces.length ≤ q.length ∧ (∀ n ∈ spaces, s.par.sinkHeadroom < n) ∧
    (spaces.length = q.length ∧ stop = [] ∨
      spaces.length < q.length ∧ ∃ n, n ≤ s.par.sinkHeadroom ∧ stop = [.sinkSpace n]) := by
  induction q generalizing s with
  | nil => exact ⟨[], [], s.env.sink, by rw [drainLoop_of_empty _ h, ← h]; rfl, by simp⟩
  | cons v rest ih =>
    by_cases space : s.par.sinkHeadroom < s.env.sink.space
    · obtain ⟨spaces, stop, sink, left, bound, above, ends⟩ := ih (moved v rest s) rfl
      refine ⟨s.env.sink.space :: spaces, stop, sink, ?_, by simpa using bound,
        List.forall_mem_cons.2 ⟨space, above⟩, by simpa [moved] using ends⟩
      rw [List.length_cons, drainLoop_of_space _ h space, left]
      simp [drainCalls, moved]
    · rw [List.length_cons, drainLoop_of_no_space _ h (Nat.le_of_not_lt space)]
      refine ⟨[], [.sinkSpace s.env.sink.space], (sinkSpace s).2.env.sink, ?_, by simp, by simp,
        .inr ⟨by simp, _, Nat.le_of_not_lt space, rfl⟩⟩
      rw [List.length_nil, List.drop_zero, ← h]
      rfl

end Drain

/-- A timer that is configured and then started: a duration of 0 leaves it as it ran (43_config R221, 40_timers R122). -/
theorem configured_start_el (d : Ticks) (t : Timer) : (t.configure d 0).start.el = if d = 0 then t.el else 0 := by
  split
  · next h => rw [start_of_dur_eq_zero h, configure_el]
  · next h => rw [start_of_dur_ne_zero h, configure_off]

theorem configured_start_run (d : Ticks) (t : Timer) : (t.configure d 0).start.run = if d = 0 then t.run else true := by
  split
  · next h => rw [start_of_dur_eq_zero h, configure_run]
  · next h => rw [start_of_dur_ne_zero h]

/-- Settles O13. -/
theorem setCallsignStores : Obligations.SetCallsignStores := by
  intro s b e l h r
  refine ⟨_, callsignCode s, exec_setCallsign s b e l h r, rfl, fun k hold id => ?_, ?_, start_off _, ?_, ?_,
    minutesToTicks_toNat r, rfl, rfl, rfl, fun a rest first => ?_⟩
  · simp [mk_timer, callsignTimers, hold, id, tmr_get]
  · exact (congrArg _ (start_dur _)).trans (minutesToTicks_toNat h)
  · exact (configured_start_el _ _).trans (if_congr (minutesToTicks_eq_zero_iff h) rfl rfl)
  · exact (configured_start_run _ _).trans (if_congr (minutesToTicks_eq_zero_iff h) rfl rfl)
  · rw [callsignCode, reply_of_replies_eq_cons first]

/-- Settles O14. -/
theorem setAckStores : Obligations.SetAckStores := by
  intro s m d
  refine ⟨_, ackCode s, exec_setAck s m d, rfl, fun k ackDly minAck => ?_, rfl, rfl, ?_, fun a rest first => ?_⟩
  · simp [mk_timer, ackTimers, ackDly, minAck, tmr_get]
  · rintro rfl
    exact (expired_iff _).2 (Nat.zero_le _)
  · rw [ackCode, reply_of_replies_eq_cons first]

theorem miscTimers_get (o k h : Ticks) (ts : Timers) (j : TimerId) : (miscTimers o k h ts).get j =
    if j = .timeout then { ts.get j with dur := o, off := 0 }
    else if j = .ker then { ts.get j with dur := k, off := 0 }
    else if j = .hang then { ts.get j with dur := h, off := 0 } else ts.get j := by
  cases j <;> rfl

/-- A block is refused while no level is set, whatever its samples (41_signal_path R141). -/
theorem exec_samples_of_no_level {s : State} (h : s.cfg.rxLevel = 0) (cos : Bool) (raws : List Sample) :
    exec (.samples cos raws) s = .next { s with res := ⟨0, true, 2⟩, calls := [], halt := none } :=
  if_pos h

/-- Settles O15: the decoder's answer decides whether the encoder is asked. -/
theorem setMiscStores : Obligations.SetMiscStores := by
  intro s c v b x o k h
  by_cases accepts : rxMiscCode s = 0
  · refine ⟨_, rxMiscCode s, exec_setMisc_accepted s c v b x o k h accepts, ?_, miscTimers_get o k h s.tmr, ?_, ?_⟩
    · rw [if_pos accepts]
      rfl
    · rw [if_pos accepts]
      exact ⟨_, rfl, congrArg (fun code => [Call.totoneSetParams s.payload.pTo, .blankSetParams s.payload.pBlank,
        .rxSetParams s.payload.pRx code, .txSetParams s.payload.pTx (s.env.tx.code s.payload.pTx)]) accepts⟩
    · exact fun level cos raws => exec_samples_of_no_level level cos raws
  · refine ⟨_, rxMiscCode s, exec_setMisc_rejected s c v b x o k h accepts, ?_, miscTimers_get o k h s.tmr, ?_, ?_⟩
    · rw [if_neg accepts]
      rfl
    · rw [if_neg accepts]
      exact ⟨rfl, rfl⟩
    · exact fun level cos raws => exec_samples_of_no_level level cos raws

/-- Settles O16. -/
theorem modeWrWritesModeOnly : Obligations.ModeWrWritesModeOnly := exec_modeWr

/-- Settles O17. -/
theorem drainMovesOldestSamples : Obligations.DrainMovesOldestSamples := by
  intro s
  obtain ⟨spaces, stop, sink, left, bound, above, ends⟩ := drainLoop_moves s.orb s.beginOp rfl
  refine ⟨_, spaces, stop, rfl, ?_, bound, above, ?_, ends⟩
  · rw [State.orbCount, left]
    rfl
  · rw [State.orbCount, left]
    simp [drainCalls]

/-- A sink whose answers fall by one a write takes as many samples as its first answer is above the headroom. -/
theorem drainLoop_orb_of_falling (q : List Sample) (s : State) (space0 : Nat) (h : s.orb = q)
    (falls : s.env.sink.spaces = (List.range (q.length + 1)).map fun j => space0 - j) :
    (drainLoop q.length s).orb = q.drop (min q.length (space0 - s.par.sinkHeadroom)) := by
  induction q generalizing s space0 with
  | nil => simp [drainLoop_of_empty _ h, h]
  | cons v rest ih =>
    have answer : s.env.sink.space = space0 := by simp [Sink.space, falls, List.range_succ_eq_map]
    by_cases space : s.par.sinkHeadroom < space0
    · have later : (moved v rest s).env.sink.spaces = (List.range (rest.length + 1)).map fun j => space0 - 1 - j := by
        show s.env.sink.spaces.tail = _
        rw [falls, List.length_cons, List.range_succ_eq_map]
        simp [Function.comp_def, Nat.sub_sub, Nat.add_comm]
      have count : min (rest.length + 1) (space0 - s.par.sinkHeadroom) =
          min rest.length (space0 - 1 - s.par.sinkHeadroom) + 1 := by omega
      rw [List.length_cons, drainLoop_of_space _ h (by rwa [answer]), ih _ _ rfl later, count, List.drop_succ_cons]
      rfl
    · rw [List.length_cons, drainLoop_of_no_space _ h (by rw [answer]; omega), Nat.sub_eq_zero_of_le (Nat.le_of_not_lt space)]
      exact h

/-- Settles O18. -/
theorem drainCountFormula : Obligations.DrainCountFormula := fun s space0 falls =>
  ⟨_, rfl, drainLoop_orb_of_falling s.orb s.beginOp space0 rfl falls⟩

/-- Settles O54. -/
theorem stoppedGeneratorIsSilent : Obligations.StoppedGeneratorIsSilent := by
  intro s k p
  refine ⟨by simp [afterStop_running], ?_, fun j => ?_⟩
  · exact pulled_of_not_running k p _ (by simp [afterStop_running])
  · by_cases h : j = k <;> simp [h, afterStop_afterStop]

end Sys2Proof.Machine

/-! PROOFS. The statements on SAMPLES as a whole and on which operation writes what (41_signal_path R140 to R143, 10_state R21
to R35, 20_memory R60). -/

namespace Sys2Proof.Machine

/-! ### SAMPLES as a whole -/

/-- SAMPLES up to its result: the timers are clocked by the block, then the loop runs (41_signal_path R159). -/
def samplesEnd (cos : Bool) (raws : List Sample) (s : State) : State :=
  samplesLoop (carrier s.cfg cos) raws (clockAll raws.length s.beginOp)

section Samples

variable {s t : State} {cos : Bool} {raws : List Sample}

theorem exec_samples_of_level (level : s.cfg.rxLevel ≠ 0) : exec (.samples cos raws) s =
    match (samplesEnd cos raws s).halt with
    | some f => .fault f
    | none => .next (finish 0 (samplesEnd cos raws s)) :=
  if_neg level

theorem exec_samples_completes (level : s.cfg.rxLevel ≠ 0) (halt : (samplesEnd cos raws s).halt = none) :
    exec (.samples cos raws) s = .next (finish 0 (samplesEnd cos raws s)) := by
  simp only [exec_samples_of_level level, halt]

theorem exec_samples_faults {f : Fault} (level : s.cfg.rxLevel ≠ 0) (halt : (samplesEnd cos raws s).halt = some f) :
    exec (.samples cos raws) s = .fault f := by
  simp only [exec_samples_of_level level, halt]

/-- A SAMPLES that completes was refused, or ran its loop without a fault. -/
theorem samples_next_cases (h : exec (.samples cos raws) s = .next t) :
    s.cfg.rxLevel = 0 ∧ t = { s with res := ⟨0, true, 2⟩, calls := [], halt := none } ∨
    s.cfg.rxLevel ≠ 0 ∧ (samplesEnd cos raws s).halt = none ∧ t = finish 0 (samplesEnd cos raws s) := by
  by_cases level : s.cfg.rxLevel = 0
  · rw [exec_samples_of_no_level level] at h
    cases h
    exact .inl ⟨level, rfl⟩
  · cases halt : (samplesEnd cos raws s).halt with
    | none =>
      rw [exec_samples_completes level halt] at h
      cases h
      exact .inr ⟨level, rfl, rfl⟩
    | some f =>
      rw [exec_samples_faults level halt] at h
      cases h

theorem samples_next_of_level (level : s.cfg.rxLevel ≠ 0) (h : exec (.samples cos raws) s = .next t) :
    (samplesEnd cos raws s).halt = none ∧ t = finish 0 (samplesEnd cos raws s) := by
  obtain ⟨none, -⟩ | ⟨-, ran⟩ := samples_next_cases h
  · exact absurd none level
  · exact ran

theorem samplesEnd_run (cos : Bool) (raws : List Sample) (s : State) :
    RunFrame (clockAll raws.length s.beginOp) (samplesEnd cos raws s) := samplesLoop_run _ _ _

/-- The loop's induction for a completed SAMPLES: what the refusal, the clocking, the decoder, the delay line, an evaluation
and the audio path keep, SAMPLES keeps. -/
theorem samples_keeps (P : State → Prop) (h : exec (.samples cos raws) s = .next t)
    (hr : ∀ s res, P s → P { s with res := res }) (hb : ∀ s, P s → P s.beginOp) (hc : ∀ n s, P s → P (clockAll n s))
    (hd : ∀ x y s, P s → P (delay y (rxProcess x s).2).2) (he : ∀ v s, P s → P (eval v s))
    (ha : ∀ x s, P s → P (audioPath x s)) (hs : P s) : P t := by
  obtain ⟨-, rfl⟩ | ⟨-, -, rfl⟩ := samples_next_cases h
  · exact hr _ _ (hb _ hs)
  · exact hr _ _ (samplesLoop_keeps P hd he ha _ _ _ (hc _ _ (hb _ hs)))

/-- A timer after SAMPLES ends at its clocked value or was started at its offset. -/
theorem samplesEnd_el (k : TimerId) : ((samplesEnd cos raws s).timer k).el.toNat =
      (if (s.timer k).run then min ((s.timer k).el.toNat + raws.length) (2 ^ 32 - 1) else (s.timer k).el.toNat) ∨
    ((samplesEnd cos raws s).timer k).el = (s.timer k).off := by
  refine ((samplesEnd_run cos raws s).el k).imp (fun h => ?_) fun h => ?_
  · rw [h, clockAll_timer, clock_el_toNat, beginOp_timer]
  · rw [h, clockAll_timer, clock_off, beginOp_timer]

end Samples

/-- Settles O21, from what a run of micro-operations keeps. -/
theorem samplesCompletes : Obligations.SamplesCompletes := by
  intro s cos raws level drop room
  have run := samplesEnd_run cos raws s
  have halt : (samplesEnd cos raws s).halt = none := run.halt drop room
  exact ⟨_, exec_samples_completes level halt, rfl, halt, run.cfg, run.par, run.payload, run.cmd, run.sink, run.blankParams,
    fun k => ⟨(run.dur k).trans (by simp), (run.off k).trans (by simp), samplesEnd_el k⟩, run.orbPrefix, run.orbBound,
    run.irbLength room, run.ovf, run.ovfOnlyFull⟩

/-- Settles O53. -/
theorem samplesStopsOnlyOnOverflow : Obligations.SamplesStopsOnlyOnOverflow := by
  intro s cos raws room
  by_cases level : s.cfg.rxLevel = 0
  · exact .inl ⟨_, exec_samples_of_no_level level cos raws, rfl⟩
  · obtain halt | ⟨halt, policy⟩ := (samplesEnd_run cos raws s).haltCases room
    · exact .inl ⟨_, exec_samples_completes level halt, halt⟩
    · exact .inr ⟨exec_samples_faults level halt, policy⟩

/-- Settles O19. -/
theorem samplesRefusedWithoutLevel : Obligations.SamplesRefusedWithoutLevel := fun _ cos raws level =>
  exec_samples_of_no_level level cos raws

theorem clock_zero (t : Timer) : t.clock 0 = t := by
  refine Timer.ext (clock_dur 0 t) (clock_off 0 t) (BitVec.eq_of_toNat_eq ?_) (clock_run 0 t)
  have := t.el.isLt
  rw [clock_el_toNat]
  split <;> omega

theorem clockAll_zero (s : State) : clockAll 0 s = s := by
  have tmr : (clockAll 0 s).tmr = s.tmr := timers_ext fun k => by simp [clock_zero]
  rw [clockAll_eq, tmr]

/-- Settles O20: a block of no samples clocks no ticks and runs no loop. -/
theorem emptyBlockChangesNothing : Obligations.EmptyBlockChangesNothing := by
  intro s cos level
  have ends : samplesEnd cos [] s = s.beginOp := clockAll_zero _
  rw [exec_samples_completes level (by rw [ends]; rfl), ends]
  rfl

/-! ### Decoder and delay line -/

section Delay

variable (x : Sample) (s : State)

/-- Delay compensation writes the input ring and, out of bounds, the fault. -/
theorem delay_shape : ∃ q h, (delay x s).2 = { s with irb := q, halt := h } := by
  unfold delay putIrb getIrb
  split
  · exact ⟨_, _, rfl⟩
  · split <;> split <;> exact ⟨_, _, rfl⟩

@[simp] theorem delay_state : (delay x s).2.state = s.state := by
  obtain ⟨_, _, h⟩ := delay_shape x s; rw [h]
@[simp] theorem delay_tmr : (delay x s).2.tmr = s.tmr := by
  obtain ⟨_, _, h⟩ := delay_shape x s; rw [h]
@[simp] theorem delay_decodeEn : (delay x s).2.decodeEn = s.decodeEn := by
  obtain ⟨_, _, h⟩ := delay_shape x s; rw [h]
@[simp] theorem delay_adcDetEn : (delay x s).2.adcDetEn = s.adcDetEn := by
  obtain ⟨_, _, h⟩ := delay_shape x s; rw [h]
@[simp] theorem delay_mode : (delay x s).2.mode = s.mode := by
  obtain ⟨_, _, h⟩ := delay_shape x s; rw [h]
@[simp] theorem delay_cfg : (delay x s).2.cfg = s.cfg := by
  obtain ⟨_, _, h⟩ := delay_shape x s; rw [h]
@[simp] theorem delay_orbOvf : (delay x s).2.orbOvf = s.orbOvf := by
  obtain ⟨_, _, h⟩ := delay_shape x s; rw [h]
@[simp] theorem delay_res : (delay x s).2.res = s.res := by
  obtain ⟨_, _, h⟩ := delay_shape x s; rw [h]
@[simp] theorem delay_filt : (delay x s).2.filt = s.filt := by
  obtain ⟨_, _, h⟩ := delay_shape x s; rw [h]
@[simp] theorem delay_orb : (delay x s).2.orb = s.orb := by
  obtain ⟨_, _, h⟩ := delay_shape x s; rw [h]
@[simp] theorem delay_env : (delay x s).2.env = s.env := by
  obtain ⟨_, _, h⟩ := delay_shape x s; rw [h]
@[simp] theorem delay_payload : (delay x s).2.payload = s.payload := by
  obtain ⟨_, _, h⟩ := delay_shape x s; rw [h]
@[simp] theorem delay_par : (delay x s).2.par = s.par := by
  obtain ⟨_, _, h⟩ := delay_shape x s; rw [h]
@[simp] theorem delay_cmd : (delay x s).2.cmd = s.cmd := by
  obtain ⟨_, _, h⟩ := delay_shape x s; rw [h]
@[simp] theorem delay_calls : (delay x s).2.calls = s.calls := by
  obtain ⟨_, _, h⟩ := delay_shape x s; rw [h]
@[simp] theorem delay_timer (k : TimerId) : (delay x s).2.timer k = s.timer k := by simp [State.timer]
@[simp] theorem delay_gen (k : GenId) : (delay x s).2.gen k = s.gen k := by cases k <;> simp [State.gen]
@[simp] theorem delay_fm : (delay x s).2.fm = s.fm := by simp [State.fm]

end Delay

/-- Settles O50: an evaluation writes FM or IDLE, and nothing else in SAMPLES writes the mode. -/
theorem modeNeverOther : Obligations.ModeNeverOther := by
  intro s t cos raws h
  refine samples_keeps (fun u => u.mode = s.mode ∨ u.mode = modeFm ∨ u.mode = modeIdle) h
    (fun _ _ hu => hu) (fun _ hu => hu) (fun _ _ hu => hu) (fun x y u hu => by simpa using hu) (fun v u hu => ?_)
    (fun x u hu => by rwa [(audioPath_audio x u).mode]) (.inl rfl)
  rw [eval_mode]
  split
  · exact .inr (.inl rfl)
  · split
    · exact .inr (.inr rfl)
    · exact hu

/-! ### What the other operations write -/

section Writers

variable {s t : State} {i : Instr}

theorem exec_drain_frame (s : State) : ∃ (n : Nat) (sink : Sink) (calls : List Call), exec .drain s = .next { s with
    orb := s.orb.drop n, res := ⟨0, false, 0⟩, env := { s.env with sink := sink }, calls := calls, halt := none } := by
  obtain ⟨t, spaces, stop, h, ht, -⟩ := drainMovesOldestSamples s
  exact ⟨spaces.length, t.env.sink, t.calls, by rw [h, ← ht]⟩

theorem exec_setMisc_frame (s : State) (c v : Bool) (b : BitVec 8) (x : BitVec 16) (o k h : Ticks) :
    ∃ (code : StatusCode) (env : Env) (calls : List Call), exec (.setMisc c v b x o k h) s = .next { s with
      cfg := { s.cfg with useCos := c, cosInvert := v, rfAudioBoost := b, rxLevel := x }, tmr := miscTimers o k h s.tmr,
      res := ⟨code, false, 0⟩, env := env, calls := calls, halt := none } := by
  by_cases accepts : rxMiscCode s = 0
  · exact ⟨_, _, _, exec_setMisc_accepted s c v b x o k h accepts⟩
  · exact ⟨_, _, _, exec_setMisc_rejected s c v b x o k h accepts⟩

/-- What an operation other than SAMPLES leaves, one constructor per operation: every register but those written, each of
which is named. -/
inductive Performed (s : State) : Instr → State → Prop
  | reset (env : Env) (calls : List Call) : Performed s .reset { s with
      state := .listening, tmr := (resetState s).tmr, orb := [], orbOvf := false, res := ⟨0, false, 0⟩, env := env,
      calls := calls, halt := none }
  | setCallsign (b e l : Bool) (h r : BitVec 8) (code : StatusCode) (env : Env) (calls : List Call) :
      Performed s (.setCallsign b e l h r) { s with
        cfg := { s.cfg with atStart := b, atEnd := e, atLatch := l }, tmr := callsignTimers h r s.tmr,
        res := ⟨code, false, 0⟩, env := env, calls := calls, halt := none }
  | setAck (m d : Ticks) (code : StatusCode) (env : Env) (calls : List Call) : Performed s (.setAck m d) { s with
      tmr := ackTimers m d s.par.ackDelayOffset s.tmr, res := ⟨code, false, 0⟩, env := env, calls := calls, halt := none }
  | setMisc (c v : Bool) (b : BitVec 8) (x : BitVec 16) (o k h : Ticks) (code : StatusCode) (env : Env)
      (calls : List Call) : Performed s (.setMisc c v b x o k h) { s with
        cfg := { s.cfg with useCos := c, cosInvert := v, rfAudioBoost := b, rxLevel := x },
        tmr := miscTimers o k h s.tmr, res := ⟨code, false, 0⟩, env := env, calls := calls, halt := none }
  | drain (n : Nat) (env : Env) (calls : List Call) : Performed s .drain { s with
      orb := s.orb.drop n, res := ⟨0, false, 0⟩, env := env, calls := calls, halt := none }
  | modeWr (m : ModeWord) : Performed s (.modeWr m) { s with mode := m, res := ⟨0, false, 0⟩, calls := [], halt := none }

/-- Every operation but SAMPLES completes. -/
theorem exists_performed (s : State) (other : ∀ c raws, i ≠ .samples c raws) : ∃ t, exec i s = .next t ∧ Performed s i t := by
  cases i with
  | samples c raws => exact absurd rfl (other c raws)
  | reset =>
    refine ⟨_, exec_reset s, ?_⟩
    rw [resetState_eq]
    exact .reset _ _
  | setCallsign b e l h r => exact ⟨_, exec_setCallsign s b e l h r, .setCallsign b e l h r _ _ _⟩
  | setAck m d => exact ⟨_, exec_setAck s m d, .setAck m d _ _ _⟩
  | setMisc c v b x o k h =>
    obtain ⟨code, env, calls, eq⟩ := exec_setMisc_frame s c v b x o k h
    exact ⟨_, eq, .setMisc c v b x o k h code env calls⟩
  | drain =>
    obtain ⟨n, sink, calls, eq⟩ := exec_drain_frame s
    exact ⟨_, eq, .drain n _ calls⟩
  | modeWr m => exact ⟨_, exec_modeWr s m, .modeWr m⟩

theorem performed_of_next (h : exec i s = .next t) (other : ∀ c raws, i ≠ .samples c raws) : Performed s i t := by
  obtain ⟨t', h', performed⟩ := exists_performed s other
  rw [h] at h'
  cases h'
  exact performed

/-- Settles O22: nothing named there is among the registers that the operation writes. -/
theorem sequencingWriters : Obligations.SequencingWriters := by
  intro i s t h other
  cases performed_of_next h other <;> simp

end Writers

end Sys2Proof.Machine

namespace Sys2Proof.Machine

section Configuration

variable {s t : State} {i : Instr}

theorem callsignTimers_get (h r : BitVec 8) (ts : Timers) (k : TimerId) : (callsignTimers h r ts).get k =
    if k = .id then (ts.get k).configure (minutesToTicks r) 0
    else if k = .hold then ((ts.get k).configure (minutesToTicks h) 0).start else ts.get k := by
  cases k <;> rfl

theorem ackTimers_get (m d offset : Ticks) (ts : Timers) (k : TimerId) : (ackTimers m d offset ts).get k =
    if k = .ackDly then (ts.get k).configure d offset
    else if k = .minAck ∧ m ≠ 0 then (ts.get k).configure m 0 else ts.get k := by
  by_cases h : m = 0 <;> cases k <;> simp [ackTimers, h]

/-- SAMPLES writes no configuration, no duration and no offset. -/
structure Configured (s t : State) : Prop where
  par : t.par = s.par
  payload : t.payload = s.payload
  cmd : t.cmd = s.cmd
  cfg : t.cfg = s.cfg
  dur : ∀ k, (t.timer k).dur = (s.timer k).dur
  off : ∀ k, (t.timer k).off = (s.timer k).off

theorem samples_configured {cos : Bool} {raws : List Sample} (h : exec (.samples cos raws) s = .next t) :
    Configured s t := by
  obtain ⟨-, rfl⟩ | ⟨-, -, rfl⟩ := samples_next_cases h
  · exact ⟨rfl, rfl, rfl, rfl, fun _ => rfl, fun _ => rfl⟩
  · have run := samplesEnd_run cos raws s
    exact ⟨run.par, run.payload, run.cmd, run.cfg, fun k => (run.dur k).trans (by simp),
      fun k => (run.off k).trans (by simp)⟩

theorem Performed.callsign_kept (p : Performed s i t) (other : ∀ b e l h r, i ≠ .setCallsign b e l h r) :
    t.cfg.atStart = s.cfg.atStart ∧ t.cfg.atEnd = s.cfg.atEnd ∧ t.cfg.atLatch = s.cfg.atLatch ∧
      ∀ k, k = .hold ∨ k = .id → (t.timer k).dur = (s.timer k).dur ∧ (t.timer k).off = (s.timer k).off := by
  cases p with
  | setCallsign b e l h r => exact absurd rfl (other b e l h r)
  | _ => simp [mk_timer, tmr_get, resetState_timer, ackTimers_get, miscTimers_get, apply_ite Timer.dur, apply_ite Timer.off]

theorem Performed.ack_kept (p : Performed s i t) (other : ∀ m d, i ≠ .setAck m d) (k : TimerId)
    (hk : k = .ackDly ∨ k = .minAck) : (t.timer k).dur = (s.timer k).dur ∧ (t.timer k).off = (s.timer k).off := by
  cases p with
  | setAck m d => exact absurd rfl (other m d)
  | _ =>
    rcases hk with rfl | rfl <;> simp [mk_timer, tmr_get, resetState_timer, callsignTimers_get, miscTimers_get]

theorem Performed.misc_kept (p : Performed s i t) (other : ∀ c v b x o k h, i ≠ .setMisc c v b x o k h) :
    t.cfg.useCos = s.cfg.useCos ∧ t.cfg.cosInvert = s.cfg.cosInvert ∧ t.cfg.rfAudioBoost = s.cfg.rfAudioBoost ∧
      t.cfg.rxLevel = s.cfg.rxLevel ∧ ∀ k, k = .timeout ∨ k = .ker ∨ k = .hang →
        (t.timer k).dur = (s.timer k).dur ∧ (t.timer k).off = (s.timer k).off := by
  cases p with
  | setMisc c v b x o k h => exact absurd rfl (other c v b x o k h)
  | _ => simp [mk_timer, tmr_get, resetState_timer, callsignTimers_get, ackTimers_get]

theorem Performed.host_kept (p : Performed s i t) : t.par = s.par ∧ t.payload = s.payload ∧ t.cmd = s.cmd := by
  cases p <;> exact ⟨rfl, rfl, rfl⟩

/-- Settles O23: SAMPLES by its frame, the others by what they write. -/
theorem configurationImmutable : Obligations.ConfigurationImmutable := by
  intro i s t h
  by_cases samples : ∃ cos raws, i = .samples cos raws
  · obtain ⟨cos, raws, rfl⟩ := samples
    have kept := samples_configured h
    simp [kept.par, kept.payload, kept.cmd, kept.cfg, kept.dur, kept.off]
  · have p := performed_of_next h fun cos raws hi => samples ⟨cos, raws, hi⟩
    obtain ⟨par, payload, cmd⟩ := p.host_kept
    exact ⟨par, payload, cmd, p.callsign_kept, p.ack_kept, p.misc_kept⟩

/-- Settles O24. -/
theorem resultRegistersWritten : Obligations.ResultRegistersWritten := by
  intro i s t h
  cases i with
  | samples cos raws =>
    obtain ⟨level, rfl⟩ | ⟨level, -, rfl⟩ := samples_next_cases h
    · exact (if_pos level).symm
    · exact (if_neg level).symm
  | _ => cases performed_of_next h (by simp); rfl

end Configuration
/-! ### The invariants (10_state R26, R40) -/

/-- A step is the wait, a refusal of an illegal word, or an operation, each from the state with the words consumed. -/
theorem step_next_cases {s t : State} (h : step s = .next t) :
    t = s ∨ (∃ cmd, t = { s with cmd := cmd, res := ⟨0, true, 1⟩, calls := [], halt := none }) ∨
    ∃ i cmd, exec i { s with cmd := cmd } = .next t := by
  unfold step at h
  split at h
  · exact .inr (.inr ⟨_, _, h⟩)
  · cases h
    exact .inr (.inl ⟨_, rfl⟩)
  · cases h
    exact .inl rfl

/-- A predicate of the registers is kept by a step when an operation keeps it. -/
theorem step_keeps (P : State → Prop)
    (register : ∀ (s : State) cmd res calls, P s → P { s with cmd := cmd, res := res, calls := calls, halt := none })
    (port : ∀ (s : State) cmd, P s → P { s with cmd := cmd })
    (operation : ∀ i s t, P s → exec i s = .next t → P t) {s t : State} (hs : P s) (h : step s = .next t) : P t := by
  obtain rfl | ⟨cmd, rfl⟩ | ⟨i, cmd, ran⟩ := step_next_cases h
  · exact hs
  · exact register s cmd _ _ hs
  · exact operation i _ t (port s cmd hs) ran

/-! #### The lines agree, and the kerchunk timer runs in KERCHUNK only -/

/-- Invariants (b) and (c) of 10_state R40, which a block keeps sample by sample. -/
structure State.Sequenced (s : State) : Prop where
  lines : s.decodeEn = s.adcDetEn
  ker : s.state ≠ .kerchunk → (s.timer .ker).run = false

theorem State.Sequenced.of_eq {s t : State} (h : s.Sequenced) (state : t.state = s.state) (decodeEn : t.decodeEn = s.decodeEn)
    (adcDetEn : t.adcDetEn = s.adcDetEn) (run : (t.timer .ker).run = (s.timer .ker).run) : t.Sequenced :=
  ⟨by rw [decodeEn, adcDetEn, h.lines], fun hk => by rw [run, h.ker (state ▸ hk)]⟩

/-- A row that does not end in KERCHUNK stops the kerchunk timer, or found it stopped. -/
theorem rowTimer_ker_run {s : State} {v : Bool} (ker : s.state ≠ .kerchunk → (s.timer .ker).run = false)
    (next : nextCtl s v ≠ .kerchunk) : (rowTimer s v .ker).run = false := by
  cases h : s.state <;> cases v <;> simp_all [rowTimer, nextCtl, start_of_dur_eq_zero]

theorem State.Sequenced.eval {s : State} (h : s.Sequenced) (v : Bool) : (eval v s).Sequenced where
  lines := by rw [eval_decodeEn, eval_adcDetEn, h.lines]
  ker hk := by
    rw [eval_state] at hk
    rw [eval_timer]
    split
    · rfl
    · exact rowTimer_ker_run h.ker hk

end Sys2Proof.Machine

namespace Sys2Proof.Machine

section Invariants

variable {s t : State} {i : Instr}

theorem State.Sequenced.audioPath (h : s.Sequenced) (x : Sample) : (audioPath x s).Sequenced := by
  have frame := audioPath_audio x s
  exact h.of_eq frame.state frame.decodeEn frame.adcDetEn (by simp [State.timer, frame.tmr])

theorem Performed.sequenced (p : Performed s i t) (h : s.Sequenced) : t.Sequenced := by
  cases p with
  | reset => exact ⟨h.lines, fun _ => by simp [mk_timer, tmr_get, resetState_timer]⟩
  | setMisc => exact h.of_eq rfl rfl rfl (by simp [mk_timer, tmr_get, miscTimers_get])
  | setCallsign => exact h.of_eq rfl rfl rfl (by simp [mk_timer, tmr_get, callsignTimers_get])
  | setAck => exact h.of_eq rfl rfl rfl (by simp [mk_timer, tmr_get, ackTimers_get])
  | _ => exact h.of_eq rfl rfl rfl rfl

theorem exec_sequenced (h : s.Sequenced) (ran : exec i s = .next t) : t.Sequenced := by
  by_cases samples : ∃ cos raws, i = .samples cos raws
  · obtain ⟨cos, raws, rfl⟩ := samples
    exact samples_keeps State.Sequenced ran (fun _ _ hu => hu.of_eq rfl rfl rfl rfl) (fun _ hu => hu.of_eq rfl rfl rfl rfl)
      (fun _ _ hu => hu.of_eq rfl rfl rfl (by simp)) (fun _ _ _ hu => hu.of_eq (by simp) (by simp) (by simp) (by simp))
      (fun v _ hu => hu.eval v) (fun x _ hu => hu.audioPath x) h
  · exact (performed_of_next ran fun cos raws hi => samples ⟨cos, raws, hi⟩).sequenced h

/-! #### The rings keep their bounds, and no operation is in progress -/

/-- Invariants (d) and (e) of 10_state R40 and the end of the operation, which SAMPLES keeps as a whole. -/
structure State.Settled (s : State) : Prop where
  irb : s.irb.length = Config.irbDelay
  orb : s.orb.length ≤ Config.orbCap
  halt : s.halt = none

theorem State.inv_iff : s.Inv ↔ s.Sequenced ∧ s.Settled :=
  ⟨fun h => ⟨⟨h.lines, h.ker⟩, h.irb, h.orb, h.halt⟩, fun ⟨h, g⟩ => ⟨h.lines, h.ker, g.irb, g.orb, g.halt⟩⟩

theorem Performed.settled (p : Performed s i t) (h : s.Settled) : t.Settled := by
  cases p with
  | reset => exact ⟨h.irb, Nat.zero_le _, rfl⟩
  | drain n =>
    refine ⟨h.irb, ?_, rfl⟩
    have := h.orb
    rw [List.length_drop]
    omega
  | _ => exact ⟨h.irb, h.orb, rfl⟩

theorem irb_room (h : s.irb.length = Config.irbDelay) : s.irb.length < Config.irbCap := by
  rw [h]
  decide

theorem samples_settled {cos : Bool} {raws : List Sample} (h : s.Settled) (ran : exec (.samples cos raws) s = .next t) :
    t.Settled := by
  obtain ⟨-, rfl⟩ | ⟨-, halt, rfl⟩ := samples_next_cases ran
  · exact ⟨h.irb, h.orb, rfl⟩
  · have run := samplesEnd_run cos raws s
    exact ⟨(run.irbLength (irb_room h.irb)).trans h.irb, run.orbBound h.orb, halt⟩

theorem exec_settled (h : s.Settled) (ran : exec i s = .next t) : t.Settled := by
  by_cases samples : ∃ cos raws, i = .samples cos raws
  · obtain ⟨cos, raws, rfl⟩ := samples
    exact samples_settled h ran
  · exact (performed_of_next ran fun cos raws hi => samples ⟨cos, raws, hi⟩).settled h

/-! #### The lines follow the sequencing register -/

theorem State.LinesFollow.of_eq (h : s.LinesFollow) (state : t.state = s.state) (decodeEn : t.decodeEn = s.decodeEn)
    (adcDetEn : t.adcDetEn = s.adcDetEn) : t.LinesFollow :=
  ⟨by rw [decodeEn, adcDetEn, h.same], fun on => by rw [decodeEn, h.on (state ▸ on)],
    fun off => by rw [decodeEn, h.off (state ▸ off)]⟩

/-- In LISTENING nothing is asked of the lines but that they agree. -/
theorem State.LinesFollow.of_listening (same : s.decodeEn = s.adcDetEn) (h : s.state = .listening) : s.LinesFollow := by
  refine ⟨same, fun on => ?_, fun off => ?_⟩ <;> simp_all

/-- The value that a state asks of the lines; LISTENING asks for none. -/
def Ctl.line (c : Ctl) : Option Bool :=
  match c with
  | .listening => none
  | .kerchunk | .relaying | .timeout => some true
  | .relayingWait | .timeoutWait | .hang => some false

theorem State.linesFollow_iff : s.LinesFollow ↔ s.decodeEn = s.adcDetEn ∧ ∀ b, s.state.line = some b → s.decodeEn = b := by
  refine ⟨fun ⟨same, on, off⟩ => ⟨same, ?_⟩, fun ⟨same, follow⟩ => ⟨same, fun on => ?_, fun off => ?_⟩⟩
  · cases hs : s.state <;> simp_all [Ctl.line]
  · exact follow true (by rcases on with h | h | h <;> rw [h] <;> rfl)
  · exact follow false (by rcases off with h | h | h <;> rw [h] <;> rfl)

/-- What the next state asks of the lines is written, or was asked by the state before and is not written. -/
theorem nextCtl_line {v b : Bool} (asked : (nextCtl s v).line = some b) :
    linesWritten s.state v = some b ∨ linesWritten s.state v = none ∧ s.state.line = some b := by
  cases hs : s.state <;> cases v <;> simp only [nextCtl, hs, apply_ite Ctl.line] at asked <;>
    simp_all [linesWritten, Ctl.line]

theorem State.LinesFollow.eval (h : s.LinesFollow) (v : Bool) : (eval v s).LinesFollow := by
  obtain ⟨same, follow⟩ := linesFollow_iff.1 h
  refine linesFollow_iff.2 ⟨by rw [eval_decodeEn, eval_adcDetEn, same], fun b asked => ?_⟩
  rw [eval_state] at asked
  rw [eval_decodeEn]
  obtain written | ⟨unwritten, before⟩ := nextCtl_line asked
  · rw [written, Option.getD_some]
  · rw [unwritten, Option.getD_none, follow b before]

theorem exec_linesFollow (h : s.LinesFollow) (ran : exec i s = .next t) : t.LinesFollow := by
  by_cases samples : ∃ cos raws, i = .samples cos raws
  · obtain ⟨cos, raws, rfl⟩ := samples
    refine samples_keeps State.LinesFollow ran (fun _ _ hu => hu.of_eq rfl rfl rfl) (fun _ hu => hu.of_eq rfl rfl rfl)
      (fun _ _ hu => hu.of_eq rfl rfl rfl) (fun _ _ _ hu => hu.of_eq (by simp) (by simp) (by simp))
      (fun v _ hu => hu.eval v) (fun x u hu => ?_) h
    have frame := audioPath_audio x u
    exact hu.of_eq frame.state frame.decodeEn frame.adcDetEn
  · cases performed_of_next ran fun cos raws hi => samples ⟨cos, raws, hi⟩ with
    | reset => exact .of_listening h.same rfl
    | _ => exact h.of_eq rfl rfl rfl

/-! #### The offsets stay hardwired -/

theorem State.OffsetsHardwired.of_eq (h : s.OffsetsHardwired) (par : t.par = s.par)
    (off : ∀ k, (t.timer k).off = (s.timer k).off) : t.OffsetsHardwired := by
  unfold State.OffsetsHardwired
  simp only [par, off]
  exact h

theorem exec_offsetsHardwired (h : s.OffsetsHardwired) (ran : exec i s = .next t) : t.OffsetsHardwired := by
  by_cases samples : ∃ cos raws, i = .samples cos raws
  · obtain ⟨cos, raws, rfl⟩ := samples
    have kept := samples_configured ran
    exact h.of_eq kept.par kept.off
  · cases performed_of_next ran fun cos raws hi => samples ⟨cos, raws, hi⟩ with
    | reset => exact h.of_eq rfl fun k => by simp [mk_timer, tmr_get, resetState_timer, apply_ite Timer.off]
    | setCallsign =>
      exact ⟨fun k hk => by simp [mk_timer, tmr_get, callsignTimers_get, apply_ite Timer.off, h.1 k hk], h.2⟩
    | setAck =>
      exact ⟨fun k hk => by simp [mk_timer, tmr_get, ackTimers_get, hk, apply_ite Timer.off, h.1 k hk], .inr rfl⟩
    | setMisc =>
      exact ⟨fun k hk => by simp [mk_timer, tmr_get, miscTimers_get, apply_ite Timer.off, h.1 k hk], h.2⟩
    | _ => exact h.of_eq rfl fun _ => rfl

end Invariants

/-! #### The obligations -/

/-- Settles O55. -/
theorem invariantsAtPowerOn : Obligations.InvariantsAtPowerOn := by
  refine ⟨⟨rfl, fun _ => rfl, List.length_replicate, Nat.zero_le _, rfl⟩, .of_listening rfl rfl, fun k _ => ?_, .inl rfl⟩
  cases k <;> rfl

/-- Settles O56: the sequencing clauses sample by sample, the rings and the fault mark by the frame of the block. -/
theorem stepKeepsInvariant : Obligations.StepKeepsInvariant := by
  intro s t h ran
  rw [State.inv_iff] at h ⊢
  exact ⟨step_keeps State.Sequenced (fun _ _ _ _ hu => hu.of_eq rfl rfl rfl rfl) (fun _ _ hu => hu.of_eq rfl rfl rfl rfl)
      (fun _ _ _ hu => exec_sequenced hu) h.1 ran,
    step_keeps State.Settled (fun _ _ _ _ hu => ⟨hu.irb, hu.orb, rfl⟩) (fun _ _ hu => ⟨hu.irb, hu.orb, hu.halt⟩)
      (fun _ _ _ hu => exec_settled hu) h.2 ran⟩

/-- Settles O57: every operation but SAMPLES completes, and SAMPLES does with room in the input ring. -/
theorem stepNeverStops : Obligations.StepNeverStops := by
  intro s h drop
  cases decoded : decodePacket s.cmd with
  | wait => exact ⟨s, step_of_wait decoded, rfl⟩
  | illegal why rest => exact ⟨refuse rfIllegal { s with cmd := rest }.beginOp, by simp only [step, decoded], rfl⟩
  | instr i rest =>
    have completes : ∃ t, exec i { s with cmd := rest } = .next t := by
      by_cases samples : ∃ cos raws, i = .samples cos raws
      · obtain ⟨cos, raws, rfl⟩ := samples
        obtain ⟨t, ran, -⟩ | ⟨-, fault⟩ := samplesStopsOnlyOnOverflow { s with cmd := rest } cos raws (irb_room h.irb)
        · exact ⟨t, ran⟩
        · exact absurd (drop.symm.trans fault) (by decide)
      · obtain ⟨t, ran, -⟩ := exists_performed _ fun cos raws hi => samples ⟨cos, raws, hi⟩
        exact ⟨t, ran⟩
    obtain ⟨t, ran⟩ := completes
    exact ⟨t, (step_of_decoded decoded).trans ran, (configurationImmutable _ _ _ ran).1⟩

/-- Settles O58. -/
theorem stepKeepsLines : Obligations.StepKeepsLines := fun _ _ h ran =>
  step_keeps State.LinesFollow (fun _ _ _ _ hu => hu.of_eq rfl rfl rfl) (fun _ _ hu => hu.of_eq rfl rfl rfl)
    (fun _ _ _ hu => exec_linesFollow hu) h ran

/-- Settles O59. -/
theorem stepKeepsOffsets : Obligations.StepKeepsOffsets := fun _ _ h ran =>
  step_keeps State.OffsetsHardwired (fun _ _ _ _ hu => hu.of_eq rfl fun _ => rfl) (fun _ _ hu => hu.of_eq rfl fun _ => rfl)
    (fun _ _ _ hu => exec_offsetsHardwired hu) h ran

/-- A word put together from seven bits, read back bit by bit. -/
theorem getLsbD_ofBools : ∀ b6 b5 b4 b3 b2 b1 b0 : Bool,
    let w : BitVec 7 := BitVec.ofBool b6 ++ BitVec.ofBool b5 ++ BitVec.ofBool b4 ++ BitVec.ofBool b3 ++ BitVec.ofBool b2 ++
      BitVec.ofBool b1 ++ BitVec.ofBool b0
    w.getLsbD 0 = b0 ∧ w.getLsbD 1 = b1 ∧ w.getLsbD 2 = b2 ∧ w.getLsbD 3 = b3 ∧ w.getLsbD 4 = b4 ∧ w.getLsbD 5 = b5 ∧
      w.getLsbD 6 = b6 := by
  decide

/-- Settles O60. -/
theorem outputsShowRegisters : Obligations.OutputsShowRegisters := by
  refine ⟨⟨rfl, rfl, rfl⟩, ⟨rfl, rfl, rfl, rfl, rfl, rfl, rfl⟩, fun s => ⟨⟨rfl, rfl, rfl, rfl, rfl, rfl, rfl, rfl⟩, ?_, ?_⟩⟩
  · exact getLsbD_ofBools _ _ _ _ _ _ _
  · intro h
    have bound : s.orb.length ≤ 2400 := h.orb
    simp only [State.outputs, State.orbCount, BitVec.toNat_ofNat]
    omega

end Sys2Proof.Machine

/-! PROOFS. The statements on the signal path (00_scope R8, 41_signal_path R142 to R158): arithmetic, the evaluation policy, the
trace of the audio path, and the block of one sample. -/

namespace Sys2Proof.Machine

/-! ### Arithmetic -/

theorem sat16_toInt (v : Int) : (sat16 v).toInt = max (-32768) (min 32767 v) := by
  unfold sat16
  split
  · rw [BitVec.toInt_ofInt, Int.bmod_def]
    omega
  · split <;> rw [BitVec.toInt_ofInt, Int.bmod_def] <;> omega

theorem sample_range (x : Sample) : -32768 ≤ x.toInt ∧ x.toInt ≤ 32767 := by
  have low := BitVec.le_toInt x
  have high := BitVec.toInt_lt (x := x)
  omega

/-- The sum with silence is the sample. -/
theorem sat16_add_zero (x : Sample) : sat16 (x.toInt + (0 : Sample).toInt) = x := by
  have range := sample_range x
  have zero : (0 : Sample).toInt = 0 := by decide
  apply BitVec.eq_of_toInt_eq
  rw [sat16_toInt, zero]
  omega

/-- Settles O41. -/
theorem saturationClamps : Obligations.SaturationClamps := sat16_toInt

/-- Rounded toward zero, a quotient by a natural number lies between 0 and the dividend. -/
theorem tdiv_between (a : Int) (n : Nat) : (0 ≤ a.tdiv n ∧ a.tdiv n ≤ a) ∨ (a ≤ a.tdiv n ∧ a.tdiv n ≤ 0) := by
  obtain ⟨k, rfl | rfl⟩ := Int.eq_nat_or_neg a
  · have := Nat.div_le_self k n
    rw [← Int.ofNat_tdiv]
    generalize k / n = q at *
    omega
  · have := Nat.div_le_self k n
    rw [Int.neg_tdiv, ← Int.ofNat_tdiv]
    generalize k / n = q at *
    omega

/-- Settles O42: a quotient by a level is no larger than the sample, so it is in range. -/
theorem scalingTruncatesTowardZero : Obligations.ScalingTruncatesTowardZero := by
  intro p g raw level quotient
  refine ⟨sat16_toInt quotient, fun unshifted => ?_⟩
  have plain : quotient = raw.toInt.tdiv g.rxLevel.toNat := by simp [quotient, unshifted]
  have between := tdiv_between raw.toInt g.rxLevel.toNat
  have range := sample_range raw
  rw [← plain] at between
  have inRange : (scale p g raw).toInt = quotient := by
    rw [scale, sat16_toInt]
    change max (-32768) (min 32767 quotient) = quotient
    omega
  exact ⟨inRange.trans plain, by rw [inRange]; omega⟩

/-! ### The evaluation policy -/

section Policy

variable {s : State} (c last : Bool) {a : RxAnswer} (x : Sample)

theorem fm_eq_false_iff : s.fm = false ↔ s.mode ≠ modeFm := by simp [State.fm]

theorem policyStep_unready_idle (ready : a.ready = false) (idle : s.mode ≠ modeFm) :
    policyStep c last a x s = (.continue, s) := by
  simp [policyStep, policyCase, ready, fm_eq_false_iff.2 idle]

theorem policyStep_ready_idle (ready : a.ready = true) (idle : s.mode ≠ modeFm) : policyStep c last a x s =
    (.continue, if (eval (a.valid && c) s).mode = modeFm then audioPath x (eval (a.valid && c) s)
      else eval (a.valid && c) s) := by
  simp only [policyStep, policyCase, ready, fm_eq_false_iff.2 idle, validSignal, fm_iff]
  split <;> rfl

theorem policyStep_ready_fm (ready : a.ready = true) (fm : s.mode = modeFm) : policyStep c last a x s =
    if (eval (a.valid && c) s).mode = modeFm then (.continue, audioPath x (eval (a.valid && c) s))
    else (.break, eval (a.valid && c) s) := by
  simp only [policyStep, policyCase, ready, (fm_iff s).2 fm, validSignal, fm_iff]

theorem policyStep_last (ready : a.ready = false) (fm : s.mode = modeFm) :
    policyStep c true a x s = (.continue, audioPath x (eval (a.valid && c) s)) := by
  simp [policyStep, policyCase, ready, (fm_iff s).2 fm, validSignal]

theorem policyStep_front (ready : a.ready = false) (fm : s.mode = modeFm) :
    policyStep c false a x s = (.continue, audioPath x s) := by
  simp [policyStep, policyCase, ready, (fm_iff s).2 fm]

/-- Settles O43. -/
theorem evaluationPolicy : Obligations.EvaluationPolicy := fun c last _ x _ =>
  ⟨policyStep_unready_idle c last x, policyStep_ready_idle c last x, policyStep_ready_fm c last x,
    fun ready fm isLast => isLast ▸ policyStep_last c x ready fm,
    fun ready fm isFront => isFront ▸ policyStep_front c x ready fm⟩

/-- An evaluation on the last sample or on a ready answer that ends in mode FM lets the sample go on. -/
theorem policyStep_evaluates (evaluates : a.ready = true ∨ last = true ∧ s.mode = modeFm)
    (fm : (eval (a.valid && c) s).mode = modeFm) :
    policyStep c last a x s = (.continue, audioPath x (eval (a.valid && c) s)) := by
  cases ready : a.ready with
  | true =>
    by_cases before : s.mode = modeFm
    · rw [policyStep_ready_fm c last x ready before, if_pos fm]
    · rw [policyStep_ready_idle c last x ready before, if_pos fm]
  | false =>
    obtain ⟨rfl, before⟩ := evaluates.resolve_left (by simp [ready])
    exact policyStep_last c x ready before

end Policy

/-! ### The calls of the audio path -/

section AudioTrace

variable (y : Sample) (s : State)

/-- The acknowledgement step: what it yields, calls and does to the generators (41_signal_path R152). -/
theorem mixAck_fst : (mixAck y s).1 = if (s.gen .idgen).running then y
    else sat16 (y.toInt + ((s.gen .ackgen).pulled .ackgen .high).toInt) := by
  unfold mixAck; dsimp only; split <;> simp_all [satAdd]

theorem mixAck_calls : (mixAck y s).2.calls =
    (if (s.gen .idgen).running then [] else [.genPull .ackgen .high ((s.gen .ackgen).pulled .ackgen .high)]) ++
      .genIsRunning .idgen (s.gen .idgen).running :: s.calls := by
  unfold mixAck; dsimp only; split <;> simp_all

theorem mixAck_gen (k : GenId) : (mixAck y s).2.gen k =
    if k = .ackgen ∧ (s.gen .idgen).running = false then (s.gen k).after k (.pull .high) else s.gen k := by
  unfold mixAck; dsimp only; split <;> cases k <;> simp_all

/-- The audio-pull accessor of the identification (41_signal_path R153). -/
def idPull (s : State) : Pull := if s.state = .listening then .high else .low

theorem mixId_fst : (mixId y s).1 = if (s.gen .ackgen).running then y
    else sat16 (y.toInt + ((s.gen .idgen).pulled .idgen (idPull s)).toInt) := by
  unfold mixId; dsimp only; split <;> simp_all [satAdd, idPull]

theorem mixId_calls : (mixId y s).2.calls =
    (if (s.gen .ackgen).running then [] else
      [.genPull .idgen (idPull s) ((s.gen .idgen).pulled .idgen (idPull s))]) ++
      .genIsRunning .ackgen (s.gen .ackgen).running :: s.calls := by
  unfold mixId; dsimp only; split <;> simp_all [idPull]

theorem mixId_gen (k : GenId) : (mixId y s).2.gen k =
    if k = .idgen ∧ (s.gen .ackgen).running = false then (s.gen k).after k (.pull (idPull s)) else s.gen k := by
  unfold mixId; dsimp only; split <;> cases k <;> simp_all [idPull]

theorem mixTimeout_fst : (mixTimeout y s).1 = if (s.gen .idgen).running || (s.gen .ackgen).running then y
    else sat16 (y.toInt + ((s.gen .totone).pulled .totone .audio).toInt) := by
  unfold mixTimeout; dsimp only; split
  · simp_all
  · split <;> simp_all [satAdd]

theorem mixTimeout_calls : (mixTimeout y s).2.calls =
    (if (s.gen .idgen).running then [] else
      (if (s.gen .ackgen).running then [] else
        [.genPull .totone .audio ((s.gen .totone).pulled .totone .audio)]) ++
        [.genIsRunning .ackgen (s.gen .ackgen).running]) ++
      .genIsRunning .idgen (s.gen .idgen).running :: s.calls := by
  unfold mixTimeout; dsimp only; split
  · simp_all
  · split <;> simp_all

theorem gate_calls (x : Sample) : (gate x s).2.calls =
    (if s.state = .relaying ∨ s.state = .kerchunk then
      [.blankProcess x (blankFn s.env.blankParams s.filt.blank x).2] else []) ++ s.calls := by
  rw [gate_eq]; split <;> simp

theorem gate_gen (x : Sample) (k : GenId) : (gate x s).2.gen k = s.gen k := by
  rw [gate_eq]; split <;> simp

theorem gate_filt (x : Sample) : (gate x s).2.filt =
    { s.filt with blank := if s.state = .relaying ∨ s.state = .kerchunk then
        (blankFn s.env.blankParams s.filt.blank x).1 else s.filt.blank } := by
  rw [gate_eq]; split <;> simp

theorem gate_tx (x : Sample) : (gate x s).2.env.tx = s.env.tx := by
  rw [gate_eq]; split <;> simp

/-- The calls of filters and encoder for the mixed sample `y` (41_signal_path R156, R157). -/
theorem audioPath_calls (x : Sample) (s : State) :
    let g := gate x s
    let m := mix g.1 g.2
    let f1 := lpfFn 0 s.filt.lpf1 m.1
    let f2 := lpfFn 1 s.filt.lpf2 f1.2
    let f3 := lpfFn 2 s.filt.lpf3 f2.2
    (audioPath x s).calls = .txGetAudio s.env.tx.sample :: .lpfFilter 2 f2.2 f3.2 :: .lpfFilter 1 f1.2 f2.2 ::
      .lpfFilter 0 m.1 f1.2 :: m.2.calls := by
  intro g m f1 f2 f3
  have filt1 : m.2.filt.lpf1 = s.filt.lpf1 := by rw [(mix_frame g.2 g.1).filt, gate_filt]
  have filt2 : m.2.filt.lpf2 = s.filt.lpf2 := by rw [(mix_frame g.2 g.1).filt, gate_filt]
  have filt3 : m.2.filt.lpf3 = s.filt.lpf3 := by rw [(mix_frame g.2 g.1).filt, gate_filt]
  have tx : m.2.env.tx = s.env.tx := (mix_frame g.2 g.1).tx.trans (gate_tx s x)
  have put (z : Sample) (u : State) : (outputGate z u).calls = u.calls := by unfold outputGate; split <;> simp
  rw [audioPath, put]
  change (inject _ (filterCascade m.1 m.2).2).2.calls = _
  simp only [inject, filterCascade, txGetAudio_calls, lpf3Filter_calls, lpf2Filter_calls, lpf1Filter_calls, lpf1Filter_fst, lpf2Filter_fst,
    lpf3Filter_fst, lpf1Filter_filt, lpf2Filter_filt, lpf1Filter_tx, lpf2Filter_tx, lpf3Filter_tx, filt1, filt2, filt3, tx, f1, f2, f3]

end AudioTrace

end Sys2Proof.Machine

/-! PROOFS. One sample on its way to the output, call by call (41_signal_path R151 to R158). -/

namespace Sys2Proof.Machine

section AudioTrace

variable (y : Sample) (s : State)

/-- What the three mixing steps yield and call, each generator asked and pulled at most once a step; `u1` and `u2` are the
states after the first and the second step (41_signal_path R152 to R155). -/
theorem mix_eq {u1 u2 : State} (h1 : u1 = (mixAck y s).2) (h2 : u2 = (mixId (mixAck y s).1 u1).2) :
    let b1 := (s.gen .idgen).running
    let b2 := (u1.gen .ackgen).running
    let b3 := (u2.gen .idgen).running
    let b4 := (u2.gen .ackgen).running
    let a1 := (s.gen .ackgen).pulled .ackgen .high
    let a2 := (u1.gen .idgen).pulled .idgen (idPull s)
    let a3 := (s.gen .totone).pulled .totone .audio
    let y1 := if b1 then y else sat16 (y.toInt + a1.toInt)
    let y2 := if b2 then y1 else sat16 (y1.toInt + a2.toInt)
    (mix y s).1 = (if b3 || b4 then y2 else sat16 (y2.toInt + a3.toInt)) ∧
    (mix y s).2.calls = ([Call.genIsRunning .idgen b1] ++ (if b1 then [] else [Call.genPull .ackgen .high a1]) ++
        [Call.genIsRunning .ackgen b2] ++ (if b2 then [] else [Call.genPull .idgen (idPull s) a2]) ++
        [Call.genIsRunning .idgen b3] ++
        (if b3 then [] else Call.genIsRunning .ackgen b4 :: if b4 then [] else [Call.genPull .totone .audio a3])).reverse ++
      s.calls ∧
    (b1 = true → b2 = (s.gen .ackgen).running) ∧ (b2 = true → b3 = b1) ∧ (b1 = false → a2 = 0) := by
  intro b1 b2 b3 b4 a1 a2 a3 y1 y2
  have state : u1.state = s.state := h1 ▸ (mixAck_audio y s).state
  have pull : idPull u1 = idPull s := by rw [idPull, state]; rfl
  have gen1 (k : GenId) : u1.gen k = if k = .ackgen ∧ b1 = false then (s.gen k).after k (.pull .high) else s.gen k :=
    h1 ▸ mixAck_gen y s k
  have gen2 (k : GenId) : u2.gen k = if k = .idgen ∧ b2 = false then (u1.gen k).after k (.pull (idPull s)) else u1.gen k := by
    rw [h2, mixId_gen, pull]
  have idgen : u1.gen .idgen = s.gen .idgen := by simp [gen1]
  have totone : u2.gen .totone = s.gen .totone := by simp [gen1, gen2]
  have first : (mixAck y s).1 = y1 := mixAck_fst y s
  have second : (mixId (mixAck y s).1 u1).1 = y2 := by rw [mixId_fst, first, pull]
  have third : mix y s = mixTimeout y2 u2 := by rw [h2, h1] at *; rw [← second]; rfl
  have calls1 : u1.calls = (if b1 then [] else [.genPull .ackgen .high a1]) ++ .genIsRunning .idgen b1 :: s.calls :=
    h1 ▸ mixAck_calls y s
  have calls2 : u2.calls = (if b2 then [] else [.genPull .idgen (idPull s) a2]) ++ .genIsRunning .ackgen b2 :: u1.calls := by
    rw [h2, mixId_calls, pull]
  have calls3 : (mix y s).2.calls = (if b3 then [] else
      (if b4 then [] else [.genPull .totone .audio a3]) ++ [.genIsRunning .ackgen b4]) ++
        .genIsRunning .idgen b3 :: u2.calls := by
    rw [third, mixTimeout_calls, totone]
  refine ⟨?_, ?_, fun h => ?_, fun h => ?_, fun h => ?_⟩
  · rw [third, mixTimeout_fst, totone]
  · rw [calls3, calls2, calls1]
    simp [apply_ite List.reverse]
  · simp [b2, gen1, h]
  · simp [b3, gen2, h, idgen, b1]
  · exact pulled_of_not_running _ _ _ (by rw [idgen]; exact h)

/-- The gate leaves filters 1 to 3 and the encoder alone, so what is made of the mixed sample does not depend on it. -/
theorem filtered_gate (x : Sample) : filtered (gate x s).2 y =
    ({ (filtered s y).1 with blank := (gate x s).2.filt.blank }, (filtered s y).2) := by
  simp only [filtered, gate_filt, gate_tx]

/-- One sample on its way to the ring (41_signal_path R158, 20_memory R65): one Put while the mode is FM, of what filters and
encoder make of the mix `y3`, and otherwise nothing. -/
theorem audioPath_ring (x y3 : Sample) (mixed : (mix (gate x s).1 (gate x s).2).1 = y3) :
    let spills := s.mode = modeFm ∧ 2400 ≤ s.orb.length
    let t := audioPath x s
    t.orb = s.orb ++ (if s.mode = modeFm ∧ s.orb.length < 2400 then [(filtered s y3).2] else []) ∧
    (¬ spills → t.orbOvf = s.orbOvf ∧ t.halt = s.halt) ∧
    (spills → s.par.orbOverflowPolicy = .dropNew → t.orbOvf = true ∧ t.halt = s.halt) ∧
    (spills → s.par.orbOverflowPolicy = .fault → t.orbOvf = s.orbOvf ∧ t.halt = some (s.halt.getD .orbOverflow)) := by
  intro spills t
  obtain ⟨u, put, -, orb, ovf, halt, par⟩ := audioPath_put s x
  rw [mixed, filtered_gate] at put
  by_cases fm : s.mode = modeFm
  · rw [if_pos ((fm_iff s).2 fm)] at put
    simp only [t, put, spills, fm, true_and]
    have cap : Config.orbCap = 2400 := rfl
    by_cases room : s.orb.length < 2400
    · have written := putOrb_room u (filtered s y3).2 (by rw [orb]; exact room)
      simp [written, orb, ovf, halt, room]
    · have full : 2400 ≤ s.orb.length := Nat.le_of_not_lt room
      refine ⟨by rw [putOrb_orb, orb, cap, if_neg room, if_neg room, List.append_nil], fun h => absurd full h,
        fun _ drop => ?_, fun _ fault => ?_⟩
      · obtain ⟨kept, flag⟩ := putOrb_dropNew u (filtered s y3).2 (by rw [par, drop])
        exact ⟨by rw [flag, orb, cap, decide_eq_true full, Bool.or_true], by rw [kept, halt]⟩
      · obtain ⟨kept, raised⟩ := putOrb_fault u (filtered s y3).2 (by rw [par, fault])
        exact ⟨by rw [kept, ovf], by rw [raised, orb, cap, if_pos full, halt]⟩
  · rw [if_neg (mt (fm_iff s).1 fm)] at put
    simp [t, put, spills, fm, orb, ovf, halt]

/-- The content that enters the mixer (41_signal_path R151). -/
theorem gate_fst (x : Sample) : (gate x s).1 = if s.state = .relaying ∨ s.state = .kerchunk then
    sat16 ((blankFn s.env.blankParams s.filt.blank x).2.toInt * s.cfg.rfAudioBoost.toNat) else 0 := by
  rw [gate_eq]
  split <;> rfl

/-- Settles O44: the gate, the three mixing steps, filters and encoder, and the one Put, each by its own lemma. -/
theorem audioPathTrace : Obligations.AudioPathTrace := by
  intro x s
  have content := gate_fst s x
  obtain ⟨y0, h0⟩ : ∃ y, y = (gate x s).1 := ⟨_, rfl⟩
  obtain ⟨u1, h1⟩ : ∃ u, u = (mixAck y0 (gate x s).2).2 := ⟨_, rfl⟩
  obtain ⟨u2, h2⟩ : ∃ u, u = (mixId (mixAck y0 (gate x s).2).1 u1).2 := ⟨_, rfl⟩
  have pull : idPull (gate x s).2 = idPull s := by rw [idPull, (gate_audio x s).state]; rfl
  obtain ⟨mixed, calls, ackgen, idgen, silent⟩ := mix_eq y0 (gate x s).2 h1 h2
  simp only [gate_gen, pull] at mixed calls ackgen idgen silent
  refine ⟨(s.gen .idgen).running, (u1.gen .ackgen).running, (u2.gen .idgen).running, (u2.gen .ackgen).running,
    (s.gen .ackgen).pulled .ackgen .high, (u1.gen .idgen).pulled .idgen (idPull s),
    (s.gen .totone).pulled .totone .audio, ?_⟩
  dsimp only
  rw [← content, ← h0, ← mixed]
  have mixed' : (mix (gate x s).1 (gate x s).2).1 = (mix y0 (gate x s).2).1 := by rw [h0]
  refine ⟨(audioPath_calls x s).trans ?_, rfl, ackgen, idgen, pulled_of_not_running _ _ _, silent,
    pulled_of_not_running _ _ _, ?_, audioPath_ring s x _ mixed'⟩
  · rw [← h0, calls, gate_calls]
    simp [idPull, apply_ite List.reverse]
  · rw [audioPath_filt, filtered_gate, mixed', gate_filt]
    rfl

end AudioTrace

end Sys2Proof.Machine

/-! PROOFS. The statements on whole blocks of one sample (41_signal_path R142 to R149, R151, 20_memory R65). -/

namespace Sys2Proof.Machine

/-! ### One sample, decoded and delayed -/

section OneSample

variable (x : Sample) (s : State)

/-- The sample that goes on in place of the scaled sample `x` (41_signal_path R146). -/
def passedOn : Sample := if s.cfg.useCos then x else (s.irb ++ [x]).headD 0

/-- The state after the scaled sample `x` was decoded and delayed (41_signal_path R145, R146). -/
def delayed : State :=
  { (rxProcess x s).2 with irb := if s.cfg.useCos then s.irb else (s.irb ++ [x]).tail }

theorem delayed_gen (k : GenId) : (delayed x s).gen k = s.gen k := by cases k <;> rfl

variable {s}

theorem sampleStep_eq (c last : Bool) (raw : Sample) (room : s.cfg.useCos = false → s.irb.length < Config.irbCap) :
    sampleStep c last raw s =
      let x := scale s.par s.cfg raw
      policyStep c last (s.env.rx.answer x) (passedOn x s) (delayed x s) := by
  have line := delay_eq (rxProcess (scale s.par s.cfg raw) s).2 (scale s.par s.cfg raw) room
  simp only [sampleStep, line]
  rfl

theorem answer_of_replies_eq_cons {d : Decoder} {a : RxAnswer} {more : List RxAnswer} (h : d.replies = a :: more) :
    d.answer x = a := by
  simp [Decoder.answer, h]

theorem samplesLoop_single (c : Bool) (raw : Sample) : samplesLoop c [raw] s = (sampleStep c true raw s).2 := by
  rw [samplesLoop, List.isEmpty_nil]
  split <;> simp_all [samplesLoop]

end OneSample

/-- With a valid signal nothing due makes an evaluation of RELAYING do nothing (42_state_machine R192). -/
theorem eval_of_relaying_undisturbed {s : State} (h : s.state = .relaying) (timeout : s.due .timeout = false)
    (id : s.due .id = false) : eval true s = s := by
  have stays : nextCtl s true ≠ .listening := by simp [nextCtl, h, timeout]
  have relays : relaying true s = s := by simp [relaying, due_eq, timeout]
  rw [eval_of_not_listening stays]
  simp only [handler, h, relays]
  exact idRepeatCheck_of_not_due id

/-- With no generator running the mixer hands the content through. -/
theorem mix_of_silent {s : State} (silent : ∀ k, (s.gen k).running = false) (y : Sample) : (mix y s).1 = y := by
  obtain ⟨mixed, -, -, -, idgen⟩ := mix_eq y s rfl rfl
  rw [mixed, idgen (silent _), pulled_of_not_running _ _ _ (silent .ackgen), pulled_of_not_running _ _ _ (silent .totone)]
  simp only [sat16_add_zero, ite_self]

/-- The effective carrier of an inactive or active COS input, as the statements write it (41_signal_path R142). -/
theorem carrier_of_open {g : Cfg} {cos : Bool} (h : g.useCos = true → xor cos g.cosInvert = true) : carrier g cos = true := by
  unfold carrier
  split
  · exact h ‹_›
  · rfl

/-- A block of one sample with the carrier is one policy step on the clocked state. -/
theorem samplesEnd_single {s : State} {cos : Bool} {a : RxAnswer} {more : List RxAnswer} (raw : Sample)
    (carried : s.cfg.useCos = true → xor cos s.cfg.cosInvert = true)
    (room : s.cfg.useCos = false → s.irb.length < Config.irbCap) (replies : s.env.rx.replies = a :: more) :
    samplesEnd cos [raw] s = (policyStep true true a (passedOn (scale s.par s.cfg raw) s)
      (delayed (scale s.par s.cfg raw) (clockAll 1 s.beginOp))).2 := by
  have step := sampleStep_eq (s := clockAll 1 s.beginOp) true true raw room
  rw [samplesEnd, carrier_of_open carried]
  refine (samplesLoop_single true raw).trans (congrArg Prod.snd (step.trans ?_))
  exact congrArg (fun b => policyStep true true b _ _) (answer_of_replies_eq_cons _ replies)

/-- A sample of RELAYING that no generator joins: the filters make of the boosted content what reaches the ring. -/
theorem audioPath_relayed {s : State} (relays : s.state = .relaying) (silent : ∀ k, (s.gen k).running = false) (x : Sample) :
    let b := blankFn s.env.blankParams s.filt.blank x
    let y := sat16 (b.2.toInt * s.cfg.rfAudioBoost.toNat)
    (mix (gate x s).1 (gate x s).2).1 = y ∧ (audioPath x s).filt = { (filtered s y).1 with blank := b.1 } := by
  intro b y
  have mixed : (mix (gate x s).1 (gate x s).2).1 = y := by
    rw [mix_of_silent (fun k => by rw [gate_gen, silent]), gate_fst, if_pos (.inl relays)]
  exact ⟨mixed, by rw [audioPath_filt, mixed, filtered_gate, gate_filt, if_pos (.inl relays)]⟩

/-- Settles O45: nothing is evaluated, and the mixer adds nothing. -/
theorem relayedSampleReachesOutput : Obligations.RelayedSampleReachesOutput := by
  intro s cos raw a more relays fm level carried room replies valid timeout id silent
  have ends := samplesEnd_single raw carried room replies
  obtain ⟨u, hu⟩ : ∃ u, u = delayed (scale s.par s.cfg raw) (clockAll 1 s.beginOp) := ⟨_, rfl⟩
  have uRelays : u.state = .relaying := hu ▸ relays
  have uFm : u.mode = modeFm := hu ▸ fm
  have uSilent (k : GenId) : (u.gen k).running = false := by rw [hu, delayed_gen]; exact silent k
  have undisturbed : eval (a.valid && true) u = u := by
    rw [valid, hu]
    exact eval_of_relaying_undisturbed relays timeout id
  replace ends : samplesEnd cos [raw] s = audioPath (passedOn (scale s.par s.cfg raw) s) u := by
    rw [ends, ← hu, policyStep_evaluates true true _ (.inr ⟨rfl, uFm⟩) (by rw [undisturbed, uFm]), undisturbed]
  obtain ⟨mixed, filt⟩ := audioPath_relayed uRelays uSilent (passedOn (scale s.par s.cfg raw) s)
  obtain ⟨orb, kept, dropped, faulted⟩ := audioPath_ring u _ _ mixed
  have frame := audioPath_audio (passedOn (scale s.par s.cfg raw) s) u
  rw [← ends] at filt orb kept dropped faulted frame
  subst hu
  have drop (ok : ¬ (2400 ≤ s.orb.length ∧ s.par.orbOverflowPolicy = .fault)) (full : 2400 ≤ s.orb.length) :
      s.par.orbOverflowPolicy = .dropNew := by
    cases h : s.par.orbOverflowPolicy with
    | dropNew => rfl
    | fault => exact absurd ⟨full, h⟩ ok
  dsimp only
  refine ⟨fun ok => ⟨_, exec_samples_completes level ?_, frame.state.trans uRelays, frame.mode.trans uFm, frame.irb, filt,
    fun room => ⟨?_, (kept fun h => room h.2).1⟩, fun full => ⟨?_, ?_⟩⟩, fun ⟨full, fault⟩ => exec_samples_faults level ?_⟩
  · by_cases full : 2400 ≤ s.orb.length
    · exact (dropped ⟨fm, full⟩ (drop ok full)).2
    · exact (kept fun h => full h.2).2
  · exact orb.trans (congrArg (s.orb ++ ·) (if_pos ⟨fm, Nat.lt_of_not_le room⟩))
  · exact (orb.trans (congrArg (s.orb ++ ·) (if_neg fun h => absurd h.2 (Nat.not_lt_of_le full)))).trans (List.append_nil _)
  · exact (dropped ⟨fm, full⟩ (drop ok full)).1
  · exact (faulted ⟨fm, full⟩ fault).2

/-- Settles O52: the evaluation of the only sample leaves LISTENING, and the fault of its silence is kept. -/
theorem overflowFaultStopsSamples : Obligations.OverflowFaultStopsSamples := by
  intro s cos raw a more listens fault bound spills level room replies answer carried
  have ends := samplesEnd_single raw carried (fun _ => room) replies
  obtain ⟨u, hu⟩ : ∃ u, u = delayed (scale s.par s.cfg raw) (clockAll 1 s.beginOp) := ⟨_, rfl⟩
  have uListens : u.state = .listening := hu ▸ listens
  obtain ⟨-, -, -, -, -, raised⟩ := evaluationFrameAndSilence u true
  have halt : (eval true u).halt = some .orbOverflow := by
    refine (raised ⟨⟨uListens, rfl⟩, ?_⟩ ?_).2.trans ?_ <;> rw [hu]
    · exact spills
    · exact fault
    · rfl
  have fm : (eval (a.valid && true) u).mode = modeFm := by
    rw [answer]
    exact (eval_mode u true).trans (if_pos ⟨uListens, rfl⟩)
  rw [← hu, policyStep_evaluates true true _ (.inl (by rw [answer])) fm, answer] at ends
  refine exec_samples_faults level ?_
  rw [ends]
  exact (audioPath_run _ _).haltKept _ halt

end Sys2Proof.Machine

/-! PROOFS. Whole blocks: without carrier, and with a decoder that is never ready (41_signal_path R142, R148, R149). -/

namespace Sys2Proof.Machine

section Blocks

variable {s t u : State} {c : Bool}

theorem samplesLoop_of_continue {raw : Sample} {rest : List Sample} (h : sampleStep c rest.isEmpty raw s = (.continue, t)) :
    samplesLoop c (raw :: rest) s = samplesLoop c rest t := by
  simp [samplesLoop, h]

theorem samplesLoop_of_break {raw : Sample} {rest : List Sample} (h : sampleStep c rest.isEmpty raw s = (.break, t)) :
    samplesLoop c (raw :: rest) s = t := by
  simp [samplesLoop, h]

/-! ### Without carrier (41_signal_path R148, R149 (b), 42_state_machine R189, R201) -/

/-- In LISTENING with the mode not FM an evaluation without a signal does nothing. -/
theorem eval_of_idle (listens : s.state = .listening) (idle : s.mode ≠ modeFm) : eval false s = s := by
  simp [eval, handler, listens, listening, postTransition, fm_iff, idle]

/-- A sample of an idle block without carrier is decoded, and nothing follows. -/
theorem sampleStep_of_idle (listens : s.state = .listening) (idle : s.mode ≠ modeFm) (useCos : s.cfg.useCos = true)
    (last : Bool) (raw : Sample) : sampleStep false last raw s = (.continue, (rxProcess (scale s.par s.cfg raw) s).2) := by
  have skips : delayed (scale s.par s.cfg raw) s = (rxProcess (scale s.par s.cfg raw) s).2 := by rw [delayed, if_pos useCos]; rfl
  rw [sampleStep_eq false last raw (by simp [useCos])]
  dsimp only
  rw [skips]
  cases ready : (s.env.rx.answer (scale s.par s.cfg raw)).ready with
  | false => exact policyStep_unready_idle _ _ _ ready idle
  | true =>
    have stays : (rxProcess (scale s.par s.cfg raw) s).2.mode ≠ modeFm := idle
    have still : eval false (rxProcess (scale s.par s.cfg raw) s).2 = _ := eval_of_idle listens stays
    rw [policyStep_ready_idle _ _ _ ready stays, Bool.and_false, still, if_neg stays]

theorem samplesLoop_of_idle (listens : s.state = .listening) (idle : s.mode ≠ modeFm) (useCos : s.cfg.useCos = true)
    (raws : List Sample) : ∃ rx calls, samplesLoop false raws s = { s with env := { s.env with rx := rx }, calls := calls } := by
  induction raws generalizing s with
  | nil => exact ⟨_, _, rfl⟩
  | cons raw rest ih =>
    rw [samplesLoop_of_continue (sampleStep_of_idle listens idle useCos _ raw)]
    exact ih listens idle useCos

end Blocks

/-- Settles O47: with the COS input inactive the samples are only decoded. -/
theorem noCarrierNoOutput : Obligations.NoCarrierNoOutput := by
  intro s cos raws level listens idle uncarried
  have useCos : s.cfg.useCos = true := by by_contra h; simp [h] at uncarried
  obtain ⟨rx, calls, ends⟩ := samplesLoop_of_idle (s := clockAll raws.length s.beginOp) listens idle useCos raws
  replace ends : samplesEnd cos raws s = _ := (congrArg (samplesLoop · raws _) uncarried).trans ends
  refine ⟨_, exec_samples_completes level (by rw [ends]; rfl), ?_⟩
  rw [ends]
  rfl

/-! ### The calls of the audio path, by kind -/

section AudioCalls

variable {β : Type} {f : Call → Option β}

/-- A kind of call that no generator's accessor belongs to is not called in the mixer. -/
theorem mix_calls_filterMap (running : ∀ k b, f (.genIsRunning k b) = none) (pull : ∀ k p a, f (.genPull k p a) = none)
    (y : Sample) (s : State) : (mix y s).2.calls.filterMap f = s.calls.filterMap f := by
  obtain ⟨-, calls, -⟩ := mix_eq y s rfl rfl
  rw [calls, List.filterMap_append, List.filterMap_reverse]
  simp [apply_ite (List.filterMap f), running, pull]

/-- A kind of call that neither a generator's accessor nor a filter nor the encoder belongs to: in the audio path only the
blanker can be called. -/
theorem audioPath_calls_filterMap (running : ∀ k b, f (.genIsRunning k b) = none) (pull : ∀ k p a, f (.genPull k p a) = none)
    (filter : ∀ j x y, f (.lpfFilter j x y) = none) (tone : ∀ a, f (.txGetAudio a) = none) (x : Sample) (s : State) :
    (audioPath x s).calls.filterMap f = (if s.state = .relaying ∨ s.state = .kerchunk then
      [Call.blankProcess x (blankFn s.env.blankParams s.filt.blank x).2] else []).filterMap f ++ s.calls.filterMap f := by
  rw [audioPath_calls]
  simp only [List.filterMap_cons, filter, tone, mix_calls_filterMap running pull, gate_calls, List.filterMap_append]

theorem audioPath_commands (x : Sample) (s : State) :
    (audioPath x s).calls.filter (·.isCommand) = s.calls.filter (·.isCommand) := by
  have calls := audioPath_calls_filterMap (f := Option.guard (·.isCommand)) (fun _ _ => rfl) (fun _ _ _ => rfl)
    (fun _ _ _ => rfl) (fun _ => rfl) x s
  simp only [List.filterMap_eq_filter] at calls
  rw [calls]
  split <;> rfl

theorem audioPath_processed (x : Sample) (s : State) :
    (audioPath x s).calls.filterMap processed = s.calls.filterMap processed := by
  rw [audioPath_calls_filterMap (fun _ _ => rfl) (fun _ _ _ => rfl) (fun _ _ _ => rfl) (fun _ => rfl)]
  split <;> rfl

theorem audioPath_blanked (x : Sample) (s : State) : (audioPath x s).calls.filterMap blanked =
    (if s.state = .relaying ∨ s.state = .kerchunk then [x] else []) ++ s.calls.filterMap blanked := by
  rw [audioPath_calls_filterMap (fun _ _ => rfl) (fun _ _ _ => rfl) (fun _ _ _ => rfl) (fun _ => rfl)]
  split <;> rfl

end AudioCalls

/-! ### A decoder that is never ready (41_signal_path R149 (c)) -/

section Row

variable {s t : State} (state : t.state = s.state) (tmr : t.tmr = s.tmr) (cfg : t.cfg = s.cfg)

include state tmr cfg

/-- A row of the transition table reads the sequencing register, the timers and the configuration (42_state_machine R202). -/
theorem row_congr {α : Type} (f : State → α)
    (reads : ∀ u : State, f { u with state := s.state, tmr := s.tmr, cfg := s.cfg } = f s) : f t = f s := by
  have same := reads t
  rwa [← state, ← tmr, ← cfg] at same

theorem nextCtl_congr (v : Bool) : nextCtl t v = nextCtl s v :=
  row_congr state tmr cfg (nextCtl · v) fun _ => rfl

theorem rowCommands_congr (v : Bool) : rowCommands t v = rowCommands s v :=
  row_congr state tmr cfg (rowCommands · v) fun _ => rfl

theorem rowTimer_congr (v : Bool) (k : TimerId) : rowTimer t v k = rowTimer s v k :=
  row_congr state tmr cfg (rowTimer · v k) fun _ => rfl

end Row

/-- What a row of the transition table reads is as it was, and no command was given. -/
structure Undisturbed (s t : State) : Prop where
  state : t.state = s.state
  tmr : t.tmr = s.tmr
  decodeEn : t.decodeEn = s.decodeEn
  adcDetEn : t.adcDetEn = s.adcDetEn
  mode : t.mode = s.mode
  cfg : t.cfg = s.cfg
  par : t.par = s.par
  commands : t.calls.filter (·.isCommand) = s.calls.filter (·.isCommand)

namespace Undisturbed

variable {s t u : State}

theorem refl (s : State) : Undisturbed s s := ⟨rfl, rfl, rfl, rfl, rfl, rfl, rfl, rfl⟩

theorem trans (a : Undisturbed s t) (b : Undisturbed t u) : Undisturbed s u :=
  ⟨b.state.trans a.state, b.tmr.trans a.tmr, b.decodeEn.trans a.decodeEn, b.adcDetEn.trans a.adcDetEn, b.mode.trans a.mode,
    b.cfg.trans a.cfg, b.par.trans a.par, b.commands.trans a.commands⟩

theorem nextCtl (h : Undisturbed s t) (v : Bool) : nextCtl t v = nextCtl s v := nextCtl_congr h.state h.tmr h.cfg v

theorem rowCommands (h : Undisturbed s t) (v : Bool) : rowCommands t v = rowCommands s v :=
  rowCommands_congr h.state h.tmr h.cfg v

theorem rowTimer (h : Undisturbed s t) (v : Bool) (k : TimerId) : rowTimer t v k = rowTimer s v k :=
  rowTimer_congr h.state h.tmr h.cfg v k

end Undisturbed

theorem audioPath_undisturbed (x : Sample) (s : State) : Undisturbed s (audioPath x s) := by
  have frame := audioPath_audio x s
  exact ⟨frame.state, frame.tmr, frame.decodeEn, frame.adcDetEn, frame.mode, frame.cfg, (audioPath_run x s).par,
    audioPath_commands x s⟩

/-- Decoding and delaying disturb nothing, whether or not the input ring has room. -/
theorem sampleStep_undisturbed (c last : Bool) (raw : Sample) (s : State) : ∃ x u,
    sampleStep c last raw s = policyStep c last (s.env.rx.answer (scale s.par s.cfg raw)) x u ∧ Undisturbed s u ∧
      u.env.rx.replies = s.env.rx.replies.tail := by
  refine ⟨_, _, rfl, ⟨?_, ?_, ?_, ?_, ?_, ?_, ?_, ?_⟩, ?_⟩ <;> simp [rxProcess, Call.isCommand]

/-- Of a block in FM with a decoder never ready only the last sample evaluates. -/
theorem samplesLoop_never_ready {c : Bool} {front more : List RxAnswer} {last : RxAnswer} {raws : List Sample} {s : State}
    (fm : s.mode = modeFm) (replies : s.env.rx.replies = front ++ last :: more) (length : raws.length = front.length + 1)
    (never : ∀ a ∈ front ++ [last], a.ready = false) :
    ∃ x u, samplesLoop c raws s = audioPath x (eval (last.valid && c) u) ∧ Undisturbed s u := by
  induction front generalizing raws s with
  | nil =>
    obtain ⟨raw, rfl⟩ := List.length_eq_one_iff.1 length
    obtain ⟨x, u, step, kept, -⟩ := sampleStep_undisturbed c true raw s
    rw [answer_of_replies_eq_cons _ replies, policyStep_last c x (never last (by simp)) (kept.mode.trans fm)] at step
    exact ⟨x, u, by rw [samplesLoop_single, step], kept⟩
  | cons a front ih =>
    obtain ⟨raw, rest, rfl⟩ := List.exists_cons_of_length_eq_add_one length
    have rest_length : rest.length = front.length + 1 := by simpa using length
    obtain ⟨x, u, step, kept, left⟩ := sampleStep_undisturbed c false raw s
    rw [answer_of_replies_eq_cons _ replies, policyStep_front c x (never a (by simp)) (kept.mode.trans fm)] at step
    have goes := audioPath_undisturbed x u
    have more : rest.isEmpty = false := by cases rest <;> simp_all
    obtain ⟨y, w, ends, undisturbed⟩ := ih (s := audioPath x u) (goes.mode.trans (kept.mode.trans fm))
      (by rw [(audioPath_audio x u).rx, left, replies]; rfl) rest_length (fun b hb => never b (by simp_all))
    exact ⟨y, w, by rw [samplesLoop_of_continue (by rw [more]; exact step), ends], (kept.trans goes).trans undisturbed⟩

/-- An evaluation in FM that does not end in LISTENING ends in FM. -/
theorem eval_mode_of_not_listening {s : State} {v : Bool} (fm : s.mode = modeFm) (h : (eval v s).state ≠ .listening) :
    (eval v s).mode = modeFm := by
  rw [eval_state] at h
  simp [eval_mode, demotes, h, fm]

/-- Settles O46: the audio path before and after the one evaluation disturbs no register that the table is about. -/
theorem oneEvaluationPerNotReadyBlock : Obligations.OneEvaluationPerNotReadyBlock := by
  intro s t cos raws front more last ran level fm replies length never v entry
  obtain ⟨-, rfl⟩ := samples_next_of_level level ran
  obtain ⟨x, u, ends, kept⟩ := samplesLoop_never_ready (c := carrier s.cfg cos) (s := clockAll raws.length s.beginOp) fm replies
    length never
  replace ends : samplesEnd cos raws s = audioPath x (eval v u) := ends
  have goes := audioPath_undisturbed x (eval v u)
  have next : (samplesEnd cos raws s).state = nextCtl entry v := by rw [ends, goes.state, eval_state, kept.nextCtl]; rfl
  refine ⟨next.trans (eval_state entry v).symm, ?_, ?_, ?_, fun off => ?_⟩
  · rw [eval_decodeEn]
    exact (congrArg State.decodeEn ends).trans (goes.decodeEn.trans (by rw [eval_decodeEn, kept.state, kept.decodeEn]; rfl))
  · rw [eval_adcDetEn]
    exact (congrArg State.adcDetEn ends).trans (goes.adcDetEn.trans (by rw [eval_adcDetEn, kept.state, kept.adcDetEn]; rfl))
  · have given : (samplesEnd cos raws s).calls.filter (·.isCommand) = (rowCommands u v).reverse := by
      obtain ⟨new, calls, commands⟩ := (eval_issued u v).calls
      rw [ends, goes.commands, calls, List.filter_append, kept.commands, ← commands, ← List.filter_reverse, List.reverse_reverse]
      exact List.append_nil _
    rw [finish_calls, List.filter_reverse, given, List.reverse_reverse, kept.rowCommands]
    rfl
  · have stays : (eval v u).state ≠ .listening := by
      rw [eval_state, kept.nextCtl]
      exact fun h => off (next.trans h)
    refine ⟨(congrArg State.mode ends).trans (goes.mode.trans ?_), fun k => ?_⟩
    · exact eval_mode_of_not_listening (kept.mode.trans fm) stays
    · rw [finish_timer, ends, ← tmr_get, goes.tmr, tmr_get, eval_timer_of_not_listening _ _ stays, kept.rowTimer]
      rfl

end Sys2Proof.Machine

/-! PROOFS. The loop of SAMPLES sample by sample, and its delay line (41_signal_path R142 to R149, 20_memory R61). -/

namespace Sys2Proof.Machine

/-! ### How far the loop goes -/

section Trace

variable {c : Bool} {raws : List Sample} {s t : State}

/-- The step on sample `j` of the block `raws`, from state `u`. -/
def stepAt (c : Bool) (raws : List Sample) (j : Nat) (u : State) : LoopExit × State :=
  sampleStep c (decide (j + 1 = raws.length)) (raws.getD j 0) u

/-- The loop from `s` to `t` reaches the first `m` samples of the block, `at_ j` being the state that sample `j` takes. -/
structure LoopTrace (c : Bool) (raws : List Sample) (s t : State) (m : Nat) (at_ : Nat → State) : Prop where
  bound : m ≤ raws.length
  first : at_ 0 = s
  last : t = at_ m
  empty : m = 0 → raws = []
  step : ∀ j < m, at_ (j + 1) = (stepAt c raws j (at_ j)).2
  breaks : ∀ j < m, (stepAt c raws j (at_ j)).1 = .break → j + 1 = m
  ends : ∀ j, j + 1 = m → m = raws.length ∨ (stepAt c raws j (at_ j)).1 = .break

/-- The states of a loop that starts with `s`, by those of the loop on the remaining samples. -/
def statesFrom (s : State) (at_ : Nat → State) : Nat → State
  | 0 => s
  | j + 1 => at_ j

theorem stepAt_succ (raw : Sample) (rest : List Sample) (j : Nat) (u : State) :
    stepAt c (raw :: rest) (j + 1) u = stepAt c rest j u := by
  simp [stepAt]

theorem stepAt_zero (raw : Sample) (rest : List Sample) (u : State) :
    stepAt c (raw :: rest) 0 u = sampleStep c rest.isEmpty raw u := by
  cases rest <;> simp [stepAt]

/-- A step that breaks is the whole loop. -/
theorem loopTrace_of_break {raw : Sample} {rest : List Sample} (step : stepAt c (raw :: rest) 0 s = (.break, t)) :
    LoopTrace c (raw :: rest) s t 1 (statesFrom s fun _ => t) := by
  refine ⟨by simp, rfl, rfl, by simp, fun j hj => ?_, fun j hj _ => ?_, fun j hj => .inr ?_⟩
  · obtain rfl : j = 0 := by omega
    exact (congrArg Prod.snd step).symm
  · omega
  · obtain rfl : j = 0 := by omega
    exact congrArg Prod.fst step

/-- A step that goes on stands before the loop on the remaining samples. -/
theorem LoopTrace.cons {u : State} {m : Nat} {at_ : Nat → State} {raw : Sample} {rest : List Sample}
    (step : stepAt c (raw :: rest) 0 s = (.continue, u)) (trace : LoopTrace c rest u t m at_) :
    LoopTrace c (raw :: rest) s t (m + 1) (statesFrom s at_) := by
  refine ⟨Nat.succ_le_succ trace.bound, rfl, trace.last, by simp, fun j hj => ?_, fun j hj hb => ?_, fun j hj => ?_⟩
  · cases j with
    | zero => exact trace.first.trans (congrArg Prod.snd step).symm
    | succ j =>
      rw [stepAt_succ]
      exact trace.step j (by omega)
  · cases j with
    | zero => exact absurd ((congrArg Prod.fst step).symm.trans hb) (by simp)
    | succ j =>
      rw [stepAt_succ] at hb
      rw [trace.breaks j (by omega) hb]
  · cases j with
    | zero =>
      obtain rfl : m = 0 := by omega
      exact .inl (by rw [trace.empty rfl]; rfl)
    | succ j =>
      rw [stepAt_succ]
      exact (trace.ends j (by omega)).imp_left fun h => by rw [h]; rfl

theorem exists_loopTrace (c : Bool) (raws : List Sample) (s : State) :
    ∃ m at_, LoopTrace c raws s (samplesLoop c raws s) m at_ := by
  induction raws generalizing s with
  | nil => exact ⟨0, fun _ => s, Nat.le_refl 0, rfl, rfl, fun _ => rfl, by simp, by simp, by simp⟩
  | cons raw rest ih =>
    obtain ⟨_ | _, t, step⟩ : ∃ exit t, stepAt c (raw :: rest) 0 s = (exit, t) := ⟨_, _, rfl⟩
    · rw [samplesLoop_of_continue ((stepAt_zero raw rest s).symm.trans step)]
      obtain ⟨m, at_, trace⟩ := ih t
      exact ⟨m + 1, statesFrom s at_, trace.cons step⟩
    · rw [samplesLoop_of_break ((stepAt_zero raw rest s).symm.trans step)]
      exact ⟨1, statesFrom s fun _ => t, loopTrace_of_break step⟩

end Trace

/-! ### What one sample does to the delay line -/

section DelayLine

variable {s t : State} {xs : List Sample}

/-- The delay line through which `xs` goes from `s` on: those that wait in the input ring stand in front, unless COS squelch
is used (41_signal_path R146). -/
def lineOf (s : State) (xs : List Sample) : List Sample := if s.cfg.useCos then xs else s.irb ++ xs

theorem length_le_lineOf (s : State) (xs : List Sample) : xs.length ≤ (lineOf s xs).length := by
  unfold lineOf
  split <;> simp

theorem lineOf_append (s : State) (xs ys : List Sample) : lineOf s (xs ++ ys) = lineOf s xs ++ ys := by
  unfold lineOf
  split <;> simp

/-- From `s` to `t` exactly the samples `xs` were decoded and delayed, in order, and the blanker got some of those that left
the delay line, in order. -/
structure Delayed (s : State) (xs : List Sample) (t : State) : Prop where
  cfg : t.cfg = s.cfg
  par : t.par = s.par
  irb : t.irb = if s.cfg.useCos then s.irb else (lineOf s xs).drop xs.length
  decoder : t.calls.reverse.filterMap processed = s.calls.reverse.filterMap processed ++ xs
  blanker : ∃ ys, t.calls.reverse.filterMap blanked = s.calls.reverse.filterMap blanked ++ ys ∧
    ys.Sublist ((lineOf s xs).take xs.length)

theorem Delayed.refl (s : State) : Delayed s [] s where
  cfg := rfl
  par := rfl
  irb := by cases h : s.cfg.useCos <;> simp [lineOf, h]
  decoder := by simp
  blanker := ⟨[], by simp⟩

/-- From `s` to `t` no sample was decoded or delayed, and the blanker got some of the samples `xs`, in order. -/
structure Passed (xs : List Sample) (s t : State) : Prop where
  cfg : t.cfg = s.cfg
  par : t.par = s.par
  irb : t.irb = s.irb
  decoder : t.calls.filterMap processed = s.calls.filterMap processed
  blanker : ∃ ys, t.calls.filterMap blanked = ys ++ s.calls.filterMap blanked ∧ ys.Sublist xs

theorem passed_refl (x : Sample) (s : State) : Passed [x] s s := ⟨rfl, rfl, rfl, rfl, [], rfl, List.nil_sublist _⟩

theorem passed_eval (x : Sample) (v : Bool) (s : State) : Passed [x] s (eval v s) := by
  have issued := eval_issued s v
  exact ⟨(eval_run v s).cfg, (eval_run v s).par, eval_irb s v, issued.decoder, [], issued.blanker, List.nil_sublist _⟩

theorem passed_audioPath (x : Sample) {s t : State} (h : t.calls.filterMap blanked = s.calls.filterMap blanked)
    (p : Passed [x] s t) : Passed [x] s (audioPath x t) := by
  refine ⟨(audioPath_run x t).cfg.trans p.cfg, (audioPath_run x t).par.trans p.par, (audioPath_audio x t).irb.trans p.irb,
    (audioPath_processed x t).trans p.decoder, _, (audioPath_blanked x t).trans (by rw [h]), ?_⟩
  split
  · exact List.Sublist.refl _
  · exact List.nil_sublist _

/-- The policy hands at most the sample it got to the blanker. -/
theorem policyStep_passed (c last : Bool) (a : RxAnswer) (x : Sample) (s : State) :
    Passed [x] s (policyStep c last a x s).2 := by
  obtain h | h | h | h := policyStep_cases c last a x s <;> rw [h]
  · exact passed_refl x s
  · exact passed_audioPath x rfl (passed_refl x s)
  · exact passed_eval x _ s
  · exact passed_audioPath x (eval_issued s _).blanker (passed_eval x _ s)

theorem policyStep_break_iff (c last : Bool) (a : RxAnswer) (x : Sample) (s : State) :
    (policyStep c last a x s).1 = .break ↔ leavesFm c a s := by
  unfold leavesFm
  by_cases fm : s.mode = modeFm
  · cases ready : a.ready with
    | true =>
      rw [policyStep_ready_fm c last x ready fm]
      split <;> simp_all
    | false => cases last <;> simp [policyStep_front c x ready fm, policyStep_last c x ready fm]
  · cases ready : a.ready with
    | true => simp [policyStep_ready_idle c last x ready fm, fm]
    | false => simp [policyStep_unready_idle c last x ready fm]

/-- Without COS squelch what waits with the sample is the line behind those that left. -/
theorem Delayed.waiting (h : Delayed s xs t) (useCos : s.cfg.useCos = false) (x : Sample) :
    t.irb ++ [x] = (lineOf s (xs ++ [x])).drop xs.length := by
  rw [h.irb, useCos, lineOf_append, List.drop_append_of_le_length (length_le_lineOf s xs)]
  rfl

/-- The sample that goes on is the one that leaves the line. -/
theorem Delayed.passedOn (h : Delayed s xs t) (x : Sample) : passedOn x t = (lineOf s (xs ++ [x])).getD xs.length 0 := by
  rw [Machine.passedOn, h.cfg]
  cases useCos : s.cfg.useCos with
  | true => simp [lineOf, useCos]
  | false => simp [h.waiting useCos, List.headD_eq_head?_getD, List.head?_drop]

theorem Delayed.delayed_irb (h : Delayed s xs t) (x : Sample) : (delayed x t).irb =
    if s.cfg.useCos then s.irb else (lineOf s (xs ++ [x])).drop (xs.length + 1) := by
  have irb := h.irb
  rw [delayed, h.cfg]
  cases useCos : s.cfg.useCos with
  | true => simpa [useCos] using irb
  | false => simp [h.waiting useCos]

/-- The samples that left the line, with one more. -/
theorem take_lineOf_succ (s : State) (xs : List Sample) (x : Sample) : (lineOf s (xs ++ [x])).take (xs ++ [x]).length =
    (lineOf s xs).take xs.length ++ [(lineOf s (xs ++ [x])).getD xs.length 0] := by
  have long : xs.length < (lineOf s (xs ++ [x])).length := by
    have := length_le_lineOf s (xs ++ [x])
    rwa [List.length_append] at this
  rw [List.length_append, List.length_singleton, List.take_succ_eq_append_getElem long, List.getD_eq_getElem _ _ long,
    ← List.take_append_of_le_length (l₂ := [x]) (length_le_lineOf s xs), ← lineOf_append]

/-- One more sample. -/
theorem Delayed.next (h : Delayed s xs t) {x : Sample} {u : State}
    (passed : Passed [(lineOf s (xs ++ [x])).getD xs.length 0] (delayed x t) u) : Delayed s (xs ++ [x]) u := by
  obtain ⟨ys, hys, left⟩ := h.blanker
  obtain ⟨zs, hzs, now⟩ := passed.blanker
  refine ⟨passed.cfg.trans h.cfg, passed.par.trans h.par, passed.irb.trans ?_, ?_, ys ++ zs.reverse, ?_, ?_⟩
  · rw [h.delayed_irb, List.length_append, List.length_singleton]
  · have decoded : (delayed x t).calls.filterMap processed = x :: t.calls.filterMap processed := rfl
    rw [List.filterMap_reverse, passed.decoder, decoded, List.reverse_cons, ← List.filterMap_reverse, h.decoder,
      List.append_assoc]
  · have silent : (delayed x t).calls.filterMap blanked = t.calls.filterMap blanked := rfl
    rw [List.filterMap_reverse, hzs, silent, List.reverse_append, ← List.filterMap_reverse, hys, List.append_assoc]
  · rw [take_lineOf_succ]
    exact left.append now.reverse

/-- The step of the loop on sample `j`, its scaled value `x`. -/
theorem Delayed.stepAt_eq (h : Delayed s xs t) (room : s.irb.length < Config.irbCap) (c : Bool) {raws : List Sample} {j : Nat}
    {x : Sample} (hx : x = scale s.par s.cfg (raws.getD j 0)) : stepAt c raws j t =
      policyStep c (decide (j + 1 = raws.length)) (t.env.rx.answer x) ((lineOf s (xs ++ [x])).getD xs.length 0)
        (delayed x t) := by
  have fits : t.cfg.useCos = false → t.irb.length < Config.irbCap := by
    intro useCos
    rw [h.cfg] at useCos
    rw [h.irb, useCos]
    simpa [lineOf, useCos] using room
  rw [stepAt, sampleStep_eq c _ _ fits, h.par, h.cfg, ← hx, ← h.passedOn]

end DelayLine

/-! ### The whole block -/

section Block

variable {c : Bool} {raws : List Sample} {s t : State} {m j : Nat} {at_ : Nat → State}

/-- The samples that the decoder gets: those the loop reaches, scaled. -/
def decodedOf (s : State) (raws : List Sample) (m : Nat) : List Sample := (raws.take m).map (scale s.par s.cfg)

theorem LoopTrace.decodedOf_length (trace : LoopTrace c raws s t m at_) : (decodedOf s raws m).length = m := by
  simp [decodedOf, trace.bound]

theorem LoopTrace.decodedOf_getD (trace : LoopTrace c raws s t m at_) (hj : j < m) :
    (decodedOf s raws m).getD j 0 = scale s.par s.cfg (raws.getD j 0) := by
  have inBlock : j < raws.length := Nat.lt_of_lt_of_le hj trace.bound
  simp [decodedOf, hj, inBlock]

theorem LoopTrace.decodedOf_take_succ (trace : LoopTrace c raws s t m at_) (hj : j < m) :
    (decodedOf s raws m).take (j + 1) = (decodedOf s raws m).take j ++ [(decodedOf s raws m).getD j 0] := by
  have inside : j < (decodedOf s raws m).length := by rwa [trace.decodedOf_length]
  rw [List.take_succ_eq_append_getElem inside, List.getD_eq_getElem _ _ inside]

/-- The `j`-th sample of the line does not depend on the samples decoded after sample `j`. -/
theorem getD_lineOf_take (s : State) {xs : List Sample} (hj : j < xs.length) :
    (lineOf s (xs.take (j + 1))).getD j 0 = (lineOf s xs).getD j 0 := by
  have long := length_le_lineOf s (xs.take (j + 1))
  rw [List.length_take] at long
  conv_rhs => rw [← List.take_append_drop (j + 1) xs, lineOf_append]
  exact (List.getD_append _ _ _ _ (by omega)).symm

/-- The step on sample `j`, when the ones before were decoded and delayed. -/
theorem LoopTrace.stepAt_eq (trace : LoopTrace c raws s t m at_) (room : s.irb.length < Config.irbCap) (hj : j < m)
    (before : Delayed s ((decodedOf s raws m).take j) (at_ j)) :
    stepAt c raws j (at_ j) = policyStep c (decide (j + 1 = raws.length))
      ((at_ j).env.rx.answer ((decodedOf s raws m).getD j 0)) ((lineOf s (decodedOf s raws m)).getD j 0)
      (Machine.delayed ((decodedOf s raws m).getD j 0) (at_ j)) := by
  have length := trace.decodedOf_length
  have step := before.stepAt_eq room c (trace.decodedOf_getD hj)
  rwa [← trace.decodedOf_take_succ hj, List.length_take, length, Nat.min_eq_left (Nat.le_of_lt hj),
    getD_lineOf_take s (by omega)] at step

theorem LoopTrace.delayed (trace : LoopTrace c raws s t m at_) (room : s.irb.length < Config.irbCap) (hj : j ≤ m) :
    Delayed s ((decodedOf s raws m).take j) (at_ j) := by
  induction j with
  | zero =>
    rw [trace.first]
    exact .refl s
  | succ j ih =>
    have before := ih (by omega)
    rw [trace.step j hj, before.stepAt_eq room c (trace.decodedOf_getD hj), trace.decodedOf_take_succ hj]
    exact before.next (policyStep_passed ..)

/-- The state after sample `j` was decoded and delayed. -/
theorem LoopTrace.delayed_eq (trace : LoopTrace c raws s t m at_) (hj : j < m)
    (before : Delayed s ((decodedOf s raws m).take j) (at_ j)) :
    Machine.delayed ((decodedOf s raws m).getD j 0) (at_ j) =
      { (rxProcess ((decodedOf s raws m).getD j 0) (at_ j)).2 with
        irb := if s.cfg.useCos then s.irb else (s.irb ++ (decodedOf s raws m).take (j + 1)).drop (j + 1) } := by
  have irb := before.delayed_irb ((decodedOf s raws m).getD j 0)
  rw [← trace.decodedOf_take_succ hj, List.length_take, trace.decodedOf_length, Nat.min_eq_left (Nat.le_of_lt hj)] at irb
  have line (xs : List Sample) (n : Nat) : (if s.cfg.useCos then s.irb else (lineOf s xs).drop n) =
      if s.cfg.useCos then s.irb else (s.irb ++ xs).drop n := by
    unfold lineOf
    split <;> rfl
  rw [← line, ← irb]
  rfl

end Block

/-- Settles O49: the trace of the loop, each state of which has decoded and delayed the samples before it. -/
theorem delayLineIsFifo : Obligations.DelayLineIsFifo := by
  intro s t cos raws ran level room
  obtain ⟨-, rfl⟩ := samples_next_of_level level ran
  obtain ⟨m, at_, trace⟩ := exists_loopTrace (carrier s.cfg cos) raws (clockAll raws.length s.beginOp)
  have all := trace.delayed room (Nat.le_refl m)
  have length := trace.decodedOf_length
  rw [List.take_of_length_le (Nat.le_of_eq length), ← trace.last] at all
  obtain ⟨ys, blanker, left⟩ := all.blanker
  rw [length] at left
  refine ⟨m, at_, trace.bound, all.decoder, all.irb.trans (by rw [length]; rfl), blanker ▸ left, trace.first,
    congrArg (finish 0) trace.last, trace.empty, fun j hj => ?_⟩
  have before := trace.delayed room (Nat.le_of_lt hj)
  have step := trace.stepAt_eq room hj before
  rw [trace.delayed_eq hj before] at step
  refine ⟨(trace.step j hj).trans (congrArg Prod.snd step), fun leaves => trace.breaks j hj ?_, fun last => ?_⟩
  · rw [step]
    exact (policyStep_break_iff ..).2 leaves
  · refine (trace.ends j last).imp_right fun broke => ?_
    rw [step] at broke
    exact (policyStep_break_iff ..).1 broke

end Sys2Proof.Machine

/-! PROOFS. Relayed audio does not leak: two blocks in TIMEOUT side by side (41_signal_path R151, R198). -/

namespace Sys2Proof.Machine

/-! ### What the audio path does to generators and encoder -/

section Sources

variable (x y : Sample) (s : State) (k : GenId)

theorem mixTimeout_gen : (mixTimeout y s).2.gen k =
    if k = .totone ∧ (s.gen .idgen).running = false ∧ (s.gen .ackgen).running = false then
      (s.gen k).after k (.pull .audio) else s.gen k := by
  unfold mixTimeout
  dsimp only
  split
  · cases k <;> simp_all
  · split <;> cases k <;> simp_all

theorem filterCascade_gen : (filterCascade y s).2.gen k = s.gen k := by simp [filterCascade]

theorem filterCascade_tx : (filterCascade y s).2.env.tx = s.env.tx := by simp [filterCascade]

theorem outputGate_gen : (outputGate y s).gen k = s.gen k := by
  unfold outputGate
  split <;> simp

theorem outputGate_tx : (outputGate y s).env.tx = s.env.tx := by
  unfold outputGate
  split <;> simp

theorem audioPath_gen : (audioPath x s).gen k = (mix (gate x s).1 (gate x s).2).2.gen k := by
  rw [audioPath, outputGate_gen, inject, txGetAudio_gen, filterCascade_gen]

/-- The encoder after one sample was asked of it. -/
theorem txGetAudio_tx : (txGetAudio s).2.env.tx =
    { s.env.tx with st := Config.txNext s.env.tx.st .getAudio, audio := s.env.tx.audio.tail } := rfl

theorem audioPath_tx : (audioPath x s).env.tx = (txGetAudio s).2.env.tx := by
  rw [audioPath, outputGate_tx, inject, txGetAudio_tx, filterCascade_tx, (mix_frame _ _).tx, gate_tx, txGetAudio_tx]

end Sources

/-! ### Two states that differ in samples only -/

/-- The states agree in all that what follows to the output ring depends on, but for the samples that were received. -/
structure Alike (s t : State) : Prop where
  state : t.state = s.state
  tmr : t.tmr = s.tmr
  mode : t.mode = s.mode
  cfg : t.cfg = s.cfg
  filt : t.filt = s.filt
  orb : t.orb = s.orb
  gen : ∀ k, t.gen k = s.gen k
  tx : t.env.tx = s.env.tx
  replies : t.env.rx.replies = s.env.rx.replies

namespace Alike

variable {s t s' t' : State}

theorem refl (s : State) : Alike s s := ⟨rfl, rfl, rfl, rfl, rfl, rfl, fun _ => rfl, rfl, rfl⟩

/-- A mixing step keeps the likeness when it leaves the generators alike. -/
theorem step (h : Alike s t) (as : AudioFrame s s') (at_ : AudioFrame t t') (ms : MixFrame s s') (mt : MixFrame t t')
    (gen : ∀ k, t'.gen k = s'.gen k) : Alike s' t' where
  state := by rw [at_.state, as.state, h.state]
  tmr := by rw [at_.tmr, as.tmr, h.tmr]
  mode := by rw [at_.mode, as.mode, h.mode]
  cfg := by rw [at_.cfg, as.cfg, h.cfg]
  filt := by rw [mt.filt, ms.filt, h.filt]
  orb := by rw [mt.orb, ms.orb, h.orb]
  gen := gen
  tx := by rw [mt.tx, ms.tx, h.tx]
  replies := by rw [at_.rx, as.rx, h.replies]

theorem mixAck (h : Alike s t) (y : Sample) :
    (mixAck y t).1 = (mixAck y s).1 ∧ Alike (mixAck y s).2 (mixAck y t).2 :=
  ⟨by simp only [mixAck_fst, h.gen], h.step (mixAck_audio y s) (mixAck_audio y t) (mixAck_frame s y) (mixAck_frame t y)
    fun k => by simp only [mixAck_gen, h.gen]⟩

theorem mixId (h : Alike s t) (y : Sample) : (mixId y t).1 = (mixId y s).1 ∧ Alike (mixId y s).2 (mixId y t).2 :=
  ⟨by simp only [mixId_fst, idPull, h.gen, h.state], h.step (mixId_audio y s) (mixId_audio y t) (mixId_frame s y)
    (mixId_frame t y) fun k => by simp only [mixId_gen, idPull, h.gen, h.state]⟩

theorem mixTimeout (h : Alike s t) (y : Sample) :
    (mixTimeout y t).1 = (mixTimeout y s).1 ∧ Alike (mixTimeout y s).2 (mixTimeout y t).2 :=
  ⟨by simp only [mixTimeout_fst, h.gen], h.step (mixTimeout_audio y s) (mixTimeout_audio y t) (mixTimeout_frame s y)
    (mixTimeout_frame t y) fun k => by simp only [mixTimeout_gen, h.gen]⟩

theorem mix (h : Alike s t) (y : Sample) : (mix y t).1 = (mix y s).1 ∧ Alike (mix y s).2 (mix y t).2 := by
  obtain ⟨ack, h⟩ := h.mixAck y
  rw [Machine.mix, Machine.mix, ack]
  obtain ⟨id, h⟩ := h.mixId (Machine.mixAck y s).1
  rw [id]
  exact h.mixTimeout _

/-- With the gate closed the sample does not matter (41_signal_path R151). -/
theorem audioPath (h : Alike s t) (closed : ¬ (s.state = .relaying ∨ s.state = .kerchunk)) (x x' : Sample) :
    Alike (audioPath x s) (audioPath x' t) := by
  have gateS : gate x s = (0, s) := by rw [gate_eq, if_neg closed]
  have gateT : gate x' t = (0, t) := by rw [gate_eq, h.state, if_neg closed]
  obtain ⟨mixed, after⟩ := h.mix 0
  have as := audioPath_audio x s
  have at_ := audioPath_audio x' t
  obtain ⟨orbS, -⟩ := audioPath_ring s x _ rfl
  obtain ⟨orbT, -⟩ := audioPath_ring t x' _ rfl
  have filtered : filtered t (Machine.mix 0 t).1 = filtered s (Machine.mix 0 s).1 := by
    simp only [Machine.filtered, mixed, h.filt, h.tx]
  rw [gateS] at orbS
  rw [gateT] at orbT
  refine ⟨by rw [at_.state, as.state, h.state], by rw [at_.tmr, as.tmr, h.tmr], by rw [at_.mode, as.mode, h.mode],
    by rw [at_.cfg, as.cfg, h.cfg], ?_, ?_, fun k => ?_, ?_, by rw [at_.rx, as.rx, h.replies]⟩
  · rw [audioPath_filt, audioPath_filt, gateS, gateT, filtered]
  · rw [orbS, orbT, filtered, h.orb, h.mode]
  · rw [audioPath_gen, audioPath_gen, gateS, gateT, after.gen]
  · rw [audioPath_tx, audioPath_tx, txGetAudio_tx, txGetAudio_tx, h.tx]

/-- An evaluation that neither starts nor ends in LISTENING. -/
theorem eval (h : Alike s t) (v : Bool) (starts : s.state ≠ .listening) (ends : (eval v s).state ≠ .listening) :
    Alike (eval v s) (eval v t) := by
  have next : (Machine.eval v t).state = (Machine.eval v s).state := by
    rw [eval_state, eval_state, nextCtl_congr h.state h.tmr h.cfg]
  have startsT : t.state ≠ .listening := by rwa [h.state]
  obtain ⟨orbS, -, -⟩ := eval_ring s v fun l => starts l.1
  obtain ⟨orbT, -, -⟩ := eval_ring t v fun l => startsT l.1
  refine ⟨next, timers_ext fun k => ?_, ?_, by rw [(eval_run v t).cfg, (eval_run v s).cfg, h.cfg],
    by rw [eval_filt, eval_filt, h.filt], by rw [orbT, orbS, h.orb], fun k => ?_, by rw [eval_tx, eval_tx, h.tx],
    by rw [eval_rx, eval_rx, h.replies]⟩
  · rw [tmr_get, tmr_get, eval_timer_of_not_listening _ _ (next.trans_ne ends), eval_timer_of_not_listening _ _ ends,
      rowTimer_congr h.state h.tmr h.cfg]
  · rw [eval_state] at ends
    simp [eval_mode, demotes, nextCtl_congr h.state h.tmr h.cfg, ends, starts, startsT, h.mode]
  · rw [(eval_issued t v).gen, (eval_issued s v).gen, rowCommands_congr h.state h.tmr h.cfg, h.gen]

/-- Decoding and delaying keep the likeness, whatever the samples. -/
theorem decoded (h : Alike s t) (x y x' y' : Sample) :
    Alike (delay y (rxProcess x s).2).2 (delay y' (rxProcess x' t).2).2 := by
  have gen (u : State) (z : Sample) (k : GenId) : (rxProcess z u).2.gen k = u.gen k := by cases k <;> rfl
  have left : (rxProcess x' t).2.env.rx.replies = (rxProcess x s).2.env.rx.replies := congrArg List.tail h.replies
  constructor <;> simp [gen, left, h.state, h.tmr, h.mode, h.cfg, h.filt, h.orb, h.gen, h.tx]

end Alike

/-! ### A block in TIMEOUT -/

/-- The transmission is timed out and the mode still FM. -/
structure TimedOut (s : State) : Prop where
  state : s.state = .timeout
  mode : s.mode = modeFm

section TimedOut

variable {s t : State} {a : RxAnswer} {last : Bool}

theorem TimedOut.audioPath (h : TimedOut s) (x : Sample) : TimedOut (audioPath x s) :=
  ⟨(audioPath_audio x s).state.trans h.state, (audioPath_audio x s).mode.trans h.mode⟩

/-- With a valid signal the state machine stays in TIMEOUT (42_state_machine R198). -/
theorem TimedOut.eval (h : TimedOut s) : TimedOut (eval true s) := by
  have stays : (Machine.eval true s).state = .timeout := by simp [eval_state, nextCtl, h.state]
  exact ⟨stays, eval_mode_of_not_listening h.mode (by simp [stays])⟩

theorem TimedOut.closed (h : TimedOut s) : ¬ (s.state = .relaying ∨ s.state = .kerchunk) := by simp [h.state]

/-- The state of a sample that goes on in TIMEOUT: evaluated, or not (41_signal_path R147). -/
theorem TimedOut.policyStep (h : TimedOut s) (valid : a.valid = true) (x : Sample) : policyStep true last a x s =
    (.continue, Machine.audioPath x (if a.ready = true ∨ last = true then Machine.eval true s else s)) := by
  have signal : (a.valid && true) = true := by rw [valid]; rfl
  split
  next evaluates =>
    have step := policyStep_evaluates true last x (a := a) (s := s) (evaluates.imp_right (⟨·, h.mode⟩))
    rw [signal] at step
    exact step h.eval.mode
  next skips =>
    obtain ⟨ready, front⟩ := not_or.1 skips
    rw [Bool.not_eq_true] at ready front
    rw [front, policyStep_front true x ready h.mode]

/-- One sample of two blocks in TIMEOUT. -/
theorem TimedOut.policyStep_alike (h : TimedOut s) (alike : Alike s t) (valid : a.valid = true) (x x' : Sample) :
    ∃ u w, Machine.policyStep true last a x s = (.continue, u) ∧ Machine.policyStep true last a x' t = (.continue, w) ∧
      TimedOut u ∧ Alike u w ∧ u.env.rx = s.env.rx := by
  have h' : TimedOut t := ⟨alike.state.trans h.state, alike.mode.trans h.mode⟩
  refine ⟨_, _, h.policyStep valid x, h'.policyStep valid x', ?_⟩
  split
  · exact ⟨h.eval.audioPath x, (alike.eval true (by simp [h.state]) (by simp [h.eval.state])).audioPath h.eval.closed x x',
      (audioPath_audio x _).rx.trans (eval_rx s true)⟩
  · exact ⟨h.audioPath x, alike.audioPath h.closed x x', (audioPath_audio x s).rx⟩

/-- One sample of two blocks in TIMEOUT, decoded, delayed and on its way to the output. -/
theorem TimedOut.sampleStep_alike (h : TimedOut s) (alike : Alike s t) {more : List RxAnswer}
    (replies : s.env.rx.replies = a :: more) (valid : a.valid = true) (raw raw' : Sample) :
    ∃ u w, sampleStep true last raw s = (.continue, u) ∧ sampleStep true last raw' t = (.continue, w) ∧
      TimedOut u ∧ Alike u w ∧ u.env.rx.replies = more := by
  obtain ⟨x, hx⟩ : ∃ x, x = scale s.par s.cfg raw := ⟨_, rfl⟩
  obtain ⟨x', hx'⟩ : ∃ x, x = scale t.par t.cfg raw' := ⟨_, rfl⟩
  have answer : (rxProcess x s).1 = a := answer_of_replies_eq_cons x replies
  have answer' : (rxProcess x' t).1 = a := answer_of_replies_eq_cons x' (alike.replies.trans replies)
  have delayed : TimedOut (delay x (rxProcess x s).2).2 := ⟨by simpa using h.state, by simpa using h.mode⟩
  obtain ⟨u, w, step, step', stays, next, rx⟩ := delayed.policyStep_alike (last := last) (alike.decoded x x x' x') valid
    (delay x (rxProcess x s).2).1 (delay x' (rxProcess x' t).2).1
  refine ⟨u, w, ?_, ?_, stays, next, ?_⟩
  · rw [sampleStep, ← hx, answer, step]
  · rw [sampleStep, ← hx', answer', step']
  · rw [rx, delay_env]
    exact congrArg List.tail replies

theorem samplesLoop_alike {raws raws' : List Sample} {answers more : List RxAnswer} (h : TimedOut s) (alike : Alike s t)
    (replies : s.env.rx.replies = answers ++ more) (length : answers.length = raws.length)
    (length' : raws'.length = raws.length) (valid : ∀ a ∈ answers, a.valid = true) :
    TimedOut (samplesLoop true raws s) ∧ Alike (samplesLoop true raws s) (samplesLoop true raws' t) := by
  induction raws generalizing raws' answers s t with
  | nil =>
    obtain rfl := List.length_eq_zero_iff.1 length'
    exact ⟨h, alike⟩
  | cons raw rest ih =>
    obtain ⟨raw', rest', rfl⟩ := List.exists_cons_of_length_eq_add_one length'
    obtain ⟨a, answers, rfl⟩ := List.exists_cons_of_length_eq_add_one length
    obtain ⟨validNow, validLater⟩ := List.forall_mem_cons.1 valid
    obtain ⟨u, w, step, step', stays, next, left⟩ :=
      h.sampleStep_alike (last := rest.isEmpty) alike replies validNow raw raw'
    have sameLength : rest'.length = rest.length := Nat.succ.inj length'
    have sameEnd : rest'.isEmpty = rest.isEmpty := by cases rest <;> cases rest' <;> simp_all
    rw [samplesLoop_of_continue step, samplesLoop_of_continue (sameEnd ▸ step')]
    exact ih stays next left (Nat.succ.inj length) sameLength validLater

end TimedOut

/-- Settles O48: both runs take the same evaluations, and the closed gate lets no sample into the audio path. -/
theorem timeoutRelaysNothing : Obligations.TimeoutRelaysNothing := by
  intro s t t' cos raws raws' answers more timedOut fm carried replies length length' valid ran ran'
  obtain ⟨refused, rfl⟩ | ⟨level, -, rfl⟩ := samples_next_cases ran
  · obtain ⟨-, rfl⟩ | ⟨level, -⟩ := samples_next_cases ran'
    · exact ⟨rfl, rfl, rfl, rfl, fun level => absurd refused level⟩
    · exact absurd refused level
  · obtain ⟨-, rfl⟩ := samples_next_of_level level ran'
    obtain ⟨⟨state, mode⟩, alike⟩ := samplesLoop_alike (s := clockAll raws.length s.beginOp) ⟨timedOut, fm⟩ (.refl _) replies
      length length' valid
    rw [← carrier_of_open carried] at alike state mode
    replace alike : Alike (samplesEnd cos raws s) (samplesEnd cos raws' s) := by
      rw [samplesEnd, samplesEnd, length']
      exact alike
    exact ⟨alike.orb.symm, alike.filt.symm, alike.tmr.symm, alike.state.symm, fun _ => ⟨state, mode⟩⟩

end Sys2Proof.Machine
